-- ==== Sys2Proof/Word.lean ====
section
/-! DEFINITION. The words of the Helmcast 2260 and their plainest arithmetic: bytes, host offsets, tick
values, and the three ways the manual bounds a count (saturation, clamping, ring distance). -/

namespace Sys2Proof

/-- A byte of RAM, of a record or of the settings image. -/
abbrev Byte := BitVec 8

/-- A host offset as it stands on A0-A14: 0000H..7FFFH (R1). -/
abbrev Offset := BitVec 15

/-- A value of the tick counter or of the microsecond counter (R70, R140). -/
abbrev Tick := BitVec 16

/-- One ADC conversion, 0..1023. -/
abbrev Sample := BitVec 10

/-- A count that rises by `n` and stays at `top` once it reaches it. -/
def satAdd (top a n : Nat) : Nat := min top (a + n)

/-- `x` taken to the nearest bound of `lo..hi`. -/
def clampInt (lo hi x : Int) : Int := max lo (min hi x)

/-- Entries in ring order from `a` up to `b`: (b − a) mod size. -/
def ringDist (size a b : Nat) : Nat := (b + size - a % size) % size

/-- The index after `a` in a ring. -/
def ringNext (size a : Nat) : Nat := (a + 1) % size

/-- The index before `a` in a ring. -/
def ringPrev (size a : Nat) : Nat := (a + size - 1) % size

/-- The low byte of a number. -/
def lowByte (n : Nat) : Byte := BitVec.ofNat 8 n

/-- The second byte of a number. -/
def highByte (n : Nat) : Byte := BitVec.ofNat 8 (n / 256)

/-- A two-byte field, low byte first (ch 12). -/
def word16 (lo hi : Byte) : Nat := lo.toNat + 256 * hi.toNat

end Sys2Proof
end

