-- ==== Sys2Proof/Syntax.lean ====
section
/-! DEFINITION. The commands of the Helmcast 2260: one constructor per row of spec/opcode_table.json, in its
order. The table gives no operands; those given here are what the rule of the row needs from outside. -/

namespace Sys2Proof

/-- Levels of the three switch and line-sense inputs as a command finds them; `true` is active
(00_scope.md Table 1-8; log 5). -/
structure Pins where
  /-- HOME: the carriage is at the start of its travel. -/
  home : Bool
  /-- END: the carriage is at the far end of its travel. -/
  travelEnd : Bool
  /-- LSN: the four-wire circuit is sensed. -/
  lsn : Bool
  deriving DecidableEq, Repr

/-- One command. -/
inductive Instr where
  /-- RESET goes active (R16, R27). -/
  | reset
  /-- The host reads RAM at an offset (R1). -/
  | hostRead (offset : Offset)
  /-- The host writes a byte to RAM at an offset (R2). -/
  | hostWrite (offset : Offset) (byte : Byte)
  /-- The host reads status byte 0 (R163). -/
  | readStatusByte0
  /-- The host reads status byte 1 (R165). -/
  | readStatusByte1
  /-- The host reads status byte 31 (R163). -/
  | readStatusByte31
  /-- The host writes request byte +0 (R28). -/
  | jobProducerIndexWrite (byte : Byte)
  /-- The host writes request byte +1 (R47). -/
  | slipConsumerIndexWrite (byte : Byte)
  /-- The host writes request byte +2 (R129). -/
  | feedProducerIndexWrite (byte : Byte)
  /-- The host writes request byte +3 (R102). -/
  | scanReleaseIndexWrite (byte : Byte)
  /-- The host writes request byte +4 (R5). -/
  | commandArgumentWrite (byte : Byte)
  /-- The host writes 01H to request byte +5 (R26, R46). -/
  | clear
  /-- The host writes 02H to request byte +5 (R43). -/
  | abortSend
  /-- The host writes 03H to request byte +5 (R43). -/
  | abortScan
  /-- The host writes 04H to request byte +5 (R44). -/
  | abortAll
  /-- The host writes 05H to request byte +5; the speed code is the argument copy (R45). -/
  | spin
  /-- The host writes 06H to request byte +5 (R45). -/
  | releaseSpin
  /-- The host writes a code 07H..FFH to request byte +5 (R42). -/
  | unknownCommand (code : Byte)
  /-- The transfer on the RAM port completes (R12). -/
  | transferComplete
  /-- The dispatcher starts a fetch (R29). -/
  | jobFetchStart
  /-- The pending job passes the gate (R33 to R35). -/
  | dispatch (pins : Pins)
  /-- The slip writer starts a slip write (R156). -/
  | slipWriteStart
  /-- The status writer starts a block write (R161, R162). -/
  | statusWriteStart
  /-- The spacing count reaches its length (R161). -/
  | statusSpacingPassed
  /-- The read window count reaches its setting (R163). -/
  | readWindowExpiry
  /-- The job timer expires (R82, R83). -/
  | jobTimerExpiry (pins : Pins)
  /-- One byte arrives from the configuration memory (R18). -/
  | imageByteReceived (byte : Byte)
  /-- The tick counter passes from 65535 to 0 (R51, R70). -/
  | tickCounterWrap
  /-- A rising edge on INDEX at a value of the tick counter (R50). `servoFirst` is the order, left open by
  R89, R90 and R123, in which the servo's report and the line event of one capture are taken. -/
  | indexCapture (tick : Tick) (pins : Pins) (servoFirst : Bool)
  /-- The PWM counter returns to 0 (R62). -/
  | pwmPeriodStart
  /-- The lock timer has reached its count (R65). -/
  | lockTimeout
  /-- The quiet count has reached the stall time (R66). -/
  | stallTimeExpiry
  /-- The angle clock hands on the next slot start (R72). -/
  | slotStart
  /-- The angle clock hands on the next slot centre (R72). -/
  | slotCentre
  /-- The line timer count reaches T (R78). -/
  | lineTimerExpiry
  /-- The line timer hands on the next slot start (R79). -/
  | lineTimerSlotStart
  /-- One conversion of PHC completes with this value (R92). -/
  | conversionComplete (value : Sample)
  /-- A forward STEP pulse falls due (R97). -/
  | forwardStep (pins : Pins)
  /-- A STEP pulse of a homing falls due (R86). -/
  | homingStep (pins : Pins)
  /-- HOME becomes active (R86). -/
  | homeActive
  /-- The home timeout count has been reached (R86). -/
  | homeTimeout
  /-- The lamp settle count has reached its setting (R88). -/
  | lampSettleExpiry
  /-- One 8 kHz tone sample (R115, R116). -/
  | toneSample
  /-- The ready timeout count has been reached (R122). -/
  | readyTimeout
  /-- The receipt timeout count has been reached (R135). -/
  | receiptTimeout
  /-- Ten expiries in a row have found LSN inactive (R137). -/
  | lineLost
  /-- A rising edge on RXC at a value of the microsecond counter (R140). -/
  | rxcCapture (micro : Tick)
  /-- The quiet time reaches 8 000 microseconds (R141). -/
  | detectorSilence
  /-- RESET goes inactive (R70, R82, R140). -/
  | resetRelease
  deriving DecidableEq, Repr

end Sys2Proof
end

