-- ==== Sys2Proof/Config.lean ====
section
/-! DEFINITION. What the part fixes once (nominal periods, ring sizes, limits of the manual's tables) and the
one free value: the order in which two jobs that finish at one event are placed (R41, R148). -/

namespace Sys2Proof.Config

/-- RAM behind the part: offsets 0000H..7FFFH (Table 1-3). -/
def ramSize : Nat := 32768

/-- What a RAM byte reads as that nothing has written. DESIGN CHOICE (log 9): the manual gives RAM no
contents at power-on. Unsafe: a proof can lean on the 00H. -/
def ramDefault : Byte := 0#8

/-- T of a speed code, in ticks (Table 1-6). Codes above 2 name no speed and reach no demand (R31, R45). -/
def nominalPeriod : Nat → Nat
  | 0 => 62500
  | 1 => 41667
  | _ => 31250

/-- Entries of a job or slip ring by size code (ch 12.6). -/
def recordRingSize (code : Nat) : Nat := 4 * 2 ^ code

/-- Slots of a scan or feed ring by size code (ch 12.6). -/
def lineRingSize (code : Nat) : Nat := 4 * 2 ^ code

/-- Bytes of a job record (Table 1.2-1). -/
def jobBytes : Nat := 16

/-- Bytes of a slip (Table 1.2-1). -/
def slipBytes : Nat := 48

/-- Bytes of the status block (Table 1.2-1). -/
def statusBytes : Nat := 32

/-- Bytes of the settings image, its sum included (R18). -/
def imageBytes : Nat := 153

/-- Capacity of the scan FIFO and of the sender FIFO (R95, R132). -/
def fifoSize : Nat := 64

/-- Ticks of a job-timer period (R82). -/
def jobTimerTicks : Nat := 625

/-- Ticks between forward STEP pulses (R97). -/
def forwardStepTicks : Nat := 64

/-- Microseconds of quiet that are silence (R141). -/
def silenceMicros : Nat := 8000

/-- Half microseconds in a tick, in a tone sample and in a conversion; counts of a PWM period (Table 1-5). -/
def beatsPerTick : Nat := 32
def beatsPerSample : Nat := 250
def beatsPerConversion : Nat := 48
def pwmCounts : Nat := 1024

/-- Slips queued plus jobs running never pass this (R33). -/
def slipQueueSize : Nat := 4

/-- FREE VALUE (log 32): whether, of two jobs that finish at one event, the RELAY's slip is placed first.
R41 and R148 leave the order open, so nothing is known of it; it is applied to a counter of State. -/
opaque relayFinishesFirst : Nat → Bool

end Sys2Proof.Config
end

