-- ==== Sys2Proof/Machine/State.lean ====
section
/-! DEFINITION. The state of the Helmcast 2260 as plain data: one structure per block of Figure 1-1, each
holding what its chapter's opening list gives it, the RAM, and the queue of commands that wait. INVENTORY.md
gives the rule and the reset value of every field. -/

namespace Sys2Proof.Machine

/-- RAM as (offset, byte) pairs in canonical form (`Ram.wf`). -/
abbrev Ram := List Host.Cell

/-! ## Names the manual gives -/

/-- Device state (R17). -/
inductive DeviceState where
  | loading | passOnly | closed | opened
  deriving DecidableEq, Repr

/-- Drum state (Table 4-1). -/
inductive DrumState where
  | stopped | spinup | locking | locked | spindown
  deriving DecidableEq, Repr

/-- Scanner state (Table 6-1); `back` is RETURN. -/
inductive ScannerState where
  | idle | homing | warmup | waitLock | scan | back
  deriving DecidableEq, Repr

/-- Sender state (Table 8-1). -/
inductive SenderState where
  | idle | calling | standby | start | phasing | image | stop | awaitReceipt
  deriving DecidableEq, Repr

/-- Far-end tone (ch 09). -/
inductive Tone where
  | ready | halt | receipt
  deriving DecidableEq, Repr

/-- Detector state (Table 9-1); HEARD holds the tone heard. -/
inductive DetectorState where
  | silent | tracking | heard (tone : Tone)
  deriving DecidableEq, Repr

/-- Kind of a job record (Table 12.3-1); `other` keeps the byte of a bad record (R31). -/
inductive JobKind where
  | live | store | relay | other (code : Nat)
  deriving DecidableEq, Repr

/-- Attention causes (Table 11.4-1). -/
inductive Attention where
  | slip | jobTaken | scanLine | feedFree | command | guard | drum | start
  deriving DecidableEq, Repr

/-- Command results (R42). -/
inductive CommandResult where
  | done | unknown | notOpen | badArg | nothing
  deriving DecidableEq, Repr

/-- Result codes (Table 10.2-1) and the event kinds of 40H and above (R37). -/
inductive Cause where
  | delivered | sent | sentUnconfirmed | stored
  | rejected | halted | noAnswer | lineLost | noLine
  | noLock | drumStall | speedFault | lampFault | homeFault | scanStall | feedStall
  | aborted | cancelled | badJob
  | readyUnexpected | receiptUnexpected | haltLate | feedOrder | homeLate | abortLate
  deriving DecidableEq, Repr

/-- Which side an abort names (Table 3.3-1, row ABORTED). -/
inductive Named where
  | scanner | sender
  deriving DecidableEq, Repr

/-- The two places a job context may stand in: the LIVE or STORE that holds the scanner, and the RELAY. -/
inductive JobSlot where
  | scan | relay
  deriving DecidableEq, Repr

/-- The five part requesters (Table 1.5-1), in its order. -/
inductive Requester where
  | lineSender | scanner | statusWriter | slipWriter | dispatcher
  deriving DecidableEq, Repr

/-! ## Configuration loader -/

/-- A RAM region: its start offset and its length. -/
structure Region where
  start : Nat
  length : Nat
  deriving DecidableEq, Repr

/-- Centre and tolerance of an answer tone, in hertz (Table 2.3-1). -/
structure ToneSetting where
  centre : Nat
  tolerance : Nat
  deriving DecidableEq, Repr

/-- A band in microseconds (R142). -/
structure Band where
  low : Nat
  high : Nat
  deriving DecidableEq, Repr

/-- The stored settings (Table 2.3-1). -/
structure Settings where
  statusBase : Nat
  requestBase : Nat
  jobBase : Nat
  jobCode : Nat
  slipBase : Nat
  slipCode : Nat
  scanBase : Nat
  scanCode : Nat
  feedBase : Nat
  feedCode : Nat
  strip : Nat
  image : Nat
  gap : Nat
  conversions : Nat
  noiseLimit : Nat
  minContrast : Nat
  stripFaultLimit : Nat
  defaultWhite : Nat
  defaultBlack : Nat
  curves : List (List Nat)
  blackTone : Nat
  whiteTone : Nat
  outputGain : Nat
  startRevs : Nat
  phasingRevs : Nat
  stopRevs : Nat
  pulseWidth : Nat
  ready : ToneSetting
  halt : ToneSetting
  receipt : ToneSetting
  persistence : Nat
  readyTimeout : Nat
  receiptTimeout : Nat
  kp : Nat
  ki : Nat
  baseDuty0 : Nat
  baseDuty1 : Nat
  baseDuty2 : Nat
  spinupDuty : Nat
  lockWindow : Nat
  excursion : Nat
  faultLimit : Nat
  lockTimeout : Nat
  stallTime : Nat
  stepsPerLine : Nat
  returnStep : Nat
  homeTimeout : Nat
  positionLimit : Nat
  lampSettle : Nat
  stallLimit : Nat
  statusSpacing : Nat
  windowExpiry : Nat
  attentionMask : Byte
  deriving DecidableEq, Repr

/-- The values derived from the settings at acceptance (R24). -/
structure Derived where
  slots : Nat
  statusExtent : Region
  requestExtent : Region
  jobExtent : Region
  slipExtent : Region
  scanExtent : Region
  feedExtent : Region
  lockCount : Nat
  stallCount : Nat
  homeCount : Nat
  lampCount : Nat
  readyCount : Nat
  receiptCount : Nat
  readyBand : Band
  haltBand : Band
  receiptBand : Band
  blackIncrement : Nat
  whiteIncrement : Nat
  deriving DecidableEq, Repr

/-- Settings in force with what was derived from them (R24). -/
structure Accepted where
  settings : Settings
  derived : Derived
  deriving DecidableEq, Repr

/-- Configuration loader (ch 02). `reading` is CFCS and `cfck` the clock of the serial link (R18); `shifted`
counts the bits of `sent` that have left CFDO, 16 once the image bytes come. -/
structure Loader where
  device : DeviceState
  reading : Bool
  cfck : Bool
  sent : List Byte
  shifted : Nat
  image : List Byte
  sum : BitVec 16
  accepted : Option Accepted
  fault : Bool
  deriving DecidableEq, Repr

/-! ## Memory path -/

/-- The guard set: at most one region of each owner (Table 1.4-1). -/
structure GuardSet where
  statusBlock : Option Region
  jobEntry : Option Region
  scanFill : Option Region
  sending : Option Region
  slipEntry : Option Region
  deriving DecidableEq, Repr

/-- A host access: a read, or a write with its byte (1.1). -/
inductive HostAccess where
  | read (offset : Nat)
  | write (offset : Nat) (byte : Byte)
  deriving DecidableEq, Repr

/-- A part transfer that holds the port: its requester, its offset, the byte of a scan or slip write, and
whether its owner has stopped the work it belongs to (1.5). -/
structure Transfer where
  who : Requester
  offset : Nat
  byte : Byte
  withdrawn : Bool
  deriving DecidableEq, Repr

/-- Whose transfer holds the RAM port (1.5). -/
inductive Port where
  | idle
  | host
  | part (transfer : Transfer)
  deriving DecidableEq, Repr

/-- The host access on WAIT and the part transfers granted since it began to wait (R11). -/
structure Waiting where
  access : HostAccess
  granted : Nat
  deriving DecidableEq, Repr

/-- Memory path (ch 01). -/
structure MemoryPath where
  guards : GuardSet
  guardHits : Nat
  firstGuarded : Nat
  argument : Byte
  port : Port
  waiting : Option Waiting
  wait : Bool
  dataOut : Byte
  deriving DecidableEq, Repr

/-! ## Jobs, slips and the dispatcher -/

/-- The fields of a job record that the part keeps, with defaults resolved in a valid one (R31). -/
structure JobSpec where
  tag : BitVec 16
  kind : JobKind
  speed : Nat
  lines : Nat
  curve : Nat
  startRevs : Nat
  phasingRevs : Nat
  gain : Nat
  waitReady : Bool
  waitReceipt : Bool
  keep : Bool
  holdSpin : Bool
  noStrip : Bool
  deriving DecidableEq, Repr

/-- The pending slot's record (R30, R31, R44). `held` is set while a record that an ABORT_ALL has marked waits for the
next event at which the gate is checked (R33, log 28). -/
structure PendingJob where
  spec : JobSpec
  badField : Option Nat
  toCancel : Bool
  held : Bool
  deriving DecidableEq, Repr

/-- A fetch in progress: the entry it reads and the bytes read so far (R29). -/
structure Fetch where
  entry : Nat
  bytes : List Byte
  deriving DecidableEq, Repr

/-- Whether a side of a job is active and whether it has finished (3.3). -/
structure Side where
  active : Bool
  finished : Bool
  deriving DecidableEq, Repr

/-- The detail of a first cause: side code, state code and line (R38, R152). -/
structure Detail where
  side : Nat
  state : Nat
  line : Nat
  deriving DecidableEq, Repr

/-- One entry of the event list (R37). -/
structure JobEvent where
  kind : Cause
  line : Nat
  deriving DecidableEq, Repr

/-- Far-end tones heard by a job: a set of the three (R146). -/
structure ToneSet where
  ready : Bool
  halt : Bool
  receipt : Bool
  deriving DecidableEq, Repr

/-- What a job context keeps for its slip: counts, flags, detail and events (3.3, R149, R150). -/
structure Tally where
  linesFresh : Nat
  linesRepeated : Nat
  lineEvents : Nat
  noiseHeld : Nat
  underruns : Nat
  damaged : Nat
  skipped : Nat
  stripFaults : Nat
  excursions : Nat
  worstError : Nat
  white : Nat
  black : Nat
  tones : ToneSet
  phasingSent : Nat
  isShort : Bool
  notHome : Bool
  keepUsed : Bool
  detail : Option Detail
  events : List JobEvent
  dropped : Nat
  deriving DecidableEq, Repr

/-- A job context (3.3). -/
structure Job where
  spec : JobSpec
  scannerSide : Side
  senderSide : Side
  firstCause : Option Cause
  tally : Tally
  deriving DecidableEq, Repr

/-- A built slip, less its sequence (R148). -/
structure Slip where
  spec : JobSpec
  result : Cause
  tally : Tally
  deriving DecidableEq, Repr

/-- Job dispatcher (ch 03). -/
structure Dispatcher where
  jobProducer : Nat
  jobConsumer : Nat
  slipConsumer : Nat
  fetch : Option Fetch
  pendingJob : Option PendingJob
  cancelCount : Nat
  scanJob : Option Job
  relayJob : Option Job
  slipQueue : List Slip
  lastCode : Byte
  lastResult : CommandResult
  commandCount : Byte
  rejections : Nat
  deriving DecidableEq, Repr

/-! ## Drum servo and clocks -/

/-- A demand on the drum: its speed code and its set-aside mark (R52). -/
structure Demand where
  speed : Nat
  aside : Bool
  deriving DecidableEq, Repr

/-- The demand list (Table 4.2-1), in its order. -/
structure Demands where
  scanner : Option Demand
  live : Option Demand
  carry : Option Demand
  hold : Option Demand
  deriving DecidableEq, Repr

/-- Drum servo (ch 04). `unsettled` holds, between an event at which the demand in force has changed and the DISPATCH
that belongs to the same event (R33, R35), the speed code of the demand in force before it, or none: R52 finds the
demand afresh once, after both. It is the model's own field (log 52). -/
structure Servo where
  drum : DrumState
  reference : Option Tick
  wraps : Nat
  period : Nat
  demands : Demands
  target : Nat
  integral : Int
  duty : Nat
  nextDuty : Nat
  activeDuty : Nat
  goodCount : Nat
  lockCount : Nat
  outsideCount : Nat
  faultCount : Nat
  quiet : Nat
  lockTimer : Nat
  lockRunning : Bool
  noLockOffered : Bool
  speedFaultMark : Bool
  unsettled : Option (Option Nat)
  deriving DecidableEq, Repr

/-- Angle clock (ch 05): the period of the schedule when one is held. -/
structure AngleClock where
  schedule : Option Nat
  elapsed : Nat
  nextStart : Nat
  nextCentre : Nat
  deriving DecidableEq, Repr

/-- The sender a running line timer serves (R78, R80). -/
inductive Serves where
  | relay | live
  deriving DecidableEq, Repr

/-- Line timer (ch 05). -/
structure LineTimer where
  running : Option Serves
  modulo : Nat
  count : Nat
  begun : Bool
  nextStart : Nat
  deriving DecidableEq, Repr

/-- The free-running counters and the fractions of them the clock has run through (R70, R82, R62, R140). -/
structure Timebase where
  tick : Tick
  micro : Tick
  jobTicks : Nat
  pwmCount : Nat
  beatInTick : Nat
  beatInSample : Nat
  beatInConversion : Nat
  deriving DecidableEq, Repr

/-! ## Scanner -/

/-- The open line (ch 06): `written` counts its completed transfers, from which the next write offset
follows (R95). -/
structure OpenLine where
  slot : Nat
  damaged : Bool
  noise : Nat
  written : Nat
  previous : Option Nat
  stripOk : Bool
  whiteSum : Nat
  whiteCount : Nat
  blackSum : Nat
  blackCount : Nat
  deriving DecidableEq, Repr

/-- A conversion set in progress (R92). -/
structure ConversionSet where
  slot : Nat
  values : List Nat
  deriving DecidableEq, Repr

/-- Scanner (ch 06). -/
structure Scanner where
  state : ScannerState
  line : Nat
  position : Option Nat
  stepsOwed : Nat
  homing : Bool
  stepTicks : Nat
  homeCount : Nat
  lampCount : Nat
  armed : Bool
  white : Nat
  black : Nat
  stripRun : Nat
  stall : Nat
  openLine : Option OpenLine
  convSet : Option ConversionSet
  fifo : List Byte
  producer : Nat
  senderIndex : Nat
  releaseCopy : Nat
  enteredScan : Bool
  scanDone : Bool
  lamp : Bool
  step : Bool
  reverse : Bool
  deriving DecidableEq, Repr

/-! ## Line sender and tone detector -/

/-- Where the line in hand came from (R127). -/
inductive HandKind where
  | taken | repeated | white
  deriving DecidableEq, Repr

/-- The ring a line is read from. -/
inductive LineRing where
  | scan | feed
  deriving DecidableEq, Repr

/-- The line in hand (ch 08): the next byte to read, the next image slot to send, the header as read. -/
structure LineInHand where
  ring : LineRing
  slot : Nat
  kind : HandKind
  nextRead : Nat
  nextSlot : Nat
  headerLow : Byte
  headerLine : Nat
  headerFlags : Byte
  last : Bool
  deriving DecidableEq, Repr

/-- Line sender (ch 08). -/
structure Sender where
  state : SenderState
  onTimer : Bool
  events : Nat
  stopCount : Nat
  line : Nat
  hand : Option LineInHand
  held : Nat
  fifo : List Byte
  stall : Nat
  callMark : Bool
  timeout : Nat
  lossCount : Nat
  lossOffered : Bool
  feedProducer : Nat
  feedConsumer : Nat
  phase : Nat
  increment : Nat
  txa : Nat
  deriving DecidableEq, Repr

/-- Tone detector (ch 09). -/
structure Detector where
  state : DetectorState
  previous : Option Tick
  quiet : Nat
  runTone : Option Tone
  runCount : Nat
  loss : Nat
  deriving DecidableEq, Repr

/-! ## Slip writer and status writer -/

/-- A slip write in progress: the entry it fills and the bytes written so far (R156). -/
structure SlipWrite where
  entry : Nat
  written : Nat
  deriving DecidableEq, Repr

/-- Slip writer (ch 10). -/
structure SlipWriter where
  producer : Nat
  sequence : Byte
  write : Option SlipWrite
  deriving DecidableEq, Repr

/-- Status writer (ch 11); `spacing` is none once passed, `window` is none while shut. -/
structure StatusWriter where
  lastTone : Option Tone
  dirty : Bool
  urgent : Bool
  write : Option Nat
  sequence : Byte
  spacing : Option Nat
  window : Option Nat
  pending : Byte
  fresh : Byte
  lastByte1 : Byte
  forced : Nat
  attn : Bool
  deriving DecidableEq, Repr

/-! ## The part and the machine -/

/-- Everything the part holds: the blocks and its input pins. -/
structure Part where
  pins : Pins
  phc : Sample
  resetActive : Bool
  choices : Nat
  clock : Timebase
  loader : Loader
  path : MemoryPath
  disp : Dispatcher
  servo : Servo
  angle : AngleClock
  timer : LineTimer
  scanner : Scanner
  sender : Sender
  detector : Detector
  slips : SlipWriter
  status : StatusWriter
  deriving DecidableEq, Repr

/-- The machine: the part, the RAM behind it and the commands that wait, first in first out. -/
structure State where
  part : Part
  ram : Ram
  pending : List Instr
  deriving DecidableEq, Repr

/-! ## Updates of one block, the rest unchanged -/

def Part.onClock (p : Part) (f : Timebase → Timebase) : Part := { p with clock := f p.clock }
def Part.onLoader (p : Part) (f : Loader → Loader) : Part := { p with loader := f p.loader }
def Part.onPath (p : Part) (f : MemoryPath → MemoryPath) : Part := { p with path := f p.path }
def Part.onDisp (p : Part) (f : Dispatcher → Dispatcher) : Part := { p with disp := f p.disp }
def Part.onServo (p : Part) (f : Servo → Servo) : Part := { p with servo := f p.servo }
def Part.onAngle (p : Part) (f : AngleClock → AngleClock) : Part := { p with angle := f p.angle }
def Part.onTimer (p : Part) (f : LineTimer → LineTimer) : Part := { p with timer := f p.timer }
def Part.onScanner (p : Part) (f : Scanner → Scanner) : Part := { p with scanner := f p.scanner }
def Part.onSender (p : Part) (f : Sender → Sender) : Part := { p with sender := f p.sender }
def Part.onDetector (p : Part) (f : Detector → Detector) : Part := { p with detector := f p.detector }
def Part.onSlips (p : Part) (f : SlipWriter → SlipWriter) : Part := { p with slips := f p.slips }
def Part.onStatus (p : Part) (f : StatusWriter → StatusWriter) : Part := { p with status := f p.status }
def Part.setPins (p : Part) (pins : Pins) : Part := { p with pins := pins }
def State.onPart (s : State) (f : Part → Part) : State := { s with part := f s.part }

/-! ## RESET -/

/-- A tally with every count 0, no flag, no detail and no event (R149). -/
def Tally.zero : Tally where
  linesFresh := 0
  linesRepeated := 0
  lineEvents := 0
  noiseHeld := 0
  underruns := 0
  damaged := 0
  skipped := 0
  stripFaults := 0
  excursions := 0
  worstError := 0
  white := 0
  black := 0
  tones := ⟨false, false, false⟩
  phasingSent := 0
  isShort := false
  notHome := false
  keepUsed := false
  detail := none
  events := []
  dropped := 0

/-- No demand present (R68). -/
def Demands.none : Demands := ⟨.none, .none, .none, .none⟩

/-- The guard set with no member (R9). -/
def GuardSet.empty : GuardSet := ⟨none, none, none, none, none⟩

/-- The part right after RESET has acted, with RESET still active (R16, R27, R49, R68, R70, R77, R81, R82,
R105, R139, R140, R147, R159, R167; the values the manual does not give: log 18). -/
def Part.reset : Part where
  pins := ⟨false, false, false⟩
  phc := 0
  resetActive := true
  choices := 0
  clock := ⟨0, 0, 0, 0, 0, 0, 0⟩
  loader := { device := .loading, reading := false, cfck := false, sent := [], shifted := 0, image := [],
              sum := 0, accepted := none, fault := false }
  path := { guards := .empty, guardHits := 0, firstGuarded := 0, argument := 0, port := .idle,
            waiting := none, wait := false, dataOut := 0 }
  disp := { jobProducer := 0, jobConsumer := 0, slipConsumer := 0, fetch := none, pendingJob := none,
            cancelCount := 0, scanJob := none, relayJob := none, slipQueue := [], lastCode := 0,
            lastResult := .done, commandCount := 0, rejections := 0 }
  servo := { drum := .stopped, reference := none, wraps := 0, period := 0, demands := .none, target := 0,
             integral := 0, duty := 0, nextDuty := 0, activeDuty := 0, goodCount := 0, lockCount := 0,
             outsideCount := 0, faultCount := 0, quiet := 0, lockTimer := 0, lockRunning := false,
             noLockOffered := false, speedFaultMark := false, unsettled := none }
  angle := { schedule := none, elapsed := 0, nextStart := 0, nextCentre := 0 }
  timer := { running := none, modulo := 0, count := 0, begun := false, nextStart := 0 }
  scanner := { state := .idle, line := 0, position := none, stepsOwed := 0, homing := false, stepTicks := 0,
               homeCount := 0, lampCount := 0, armed := false, white := 0, black := 0, stripRun := 0,
               stall := 0, openLine := none, convSet := none, fifo := [], producer := 0, senderIndex := 0,
               releaseCopy := 0, enteredScan := false, scanDone := false, lamp := false, step := false,
               reverse := false }
  sender := { state := .idle, onTimer := false, events := 0, stopCount := 0, line := 0, hand := none,
              held := 255, fifo := [], stall := 0, callMark := false, timeout := 0, lossCount := 0,
              lossOffered := false, feedProducer := 0, feedConsumer := 0, phase := 0, increment := 0,
              txa := 128 }
  detector := { state := .silent, previous := none, quiet := 0, runTone := none, runCount := 0, loss := 0 }
  slips := { producer := 0, sequence := 0, write := none }
  status := { lastTone := none, dirty := false, urgent := false, write := none, sequence := 0,
              spacing := none, window := none, pending := 0, fresh := 0, lastByte1 := 0, forced := 0,
              attn := false }

/-- The machine right after reset: the part at its RESET values, RAM with nothing listed, no command waiting. -/
def State.reset : State := { part := Part.reset, ram := [], pending := [] }

/-! ## How a step can stop -/

/-- Why the machine stops with a fault. It has no constructor: the manual gives every command an effect in
every state, and every offset 0000H..7FFFH is a RAM offset (R1), so nothing raises a fault. Safe. -/
inductive Fault where
  deriving DecidableEq, Repr

/-- Why a command has no meaning. -/
inductive Refusal where
  /-- Raised by an arm of `exec` whose command has no meaning yet (none at present). Safe: the machine stops. -/
  | notModelled (mnemonic : String)
  deriving DecidableEq, Repr

end Sys2Proof.Machine
end

