-- ==== Sys2Proof/Machine/Ops.lean ====
section
/-! DEFINITION. Named operations over RAM, the placement of the structures, the job contexts and the guard
set, and the codes in which the manual shows states, kinds and causes. -/

namespace Sys2Proof.Machine

/-! ## RAM (R1, R2) -/

/-- The byte RAM holds at an offset; an unlisted offset reads `Config.ramDefault` (log 9). -/
def Ram.read : Ram → Nat → Byte
  | [], _ => Config.ramDefault
  | (a, b) :: m, x => if a = x then b else Ram.read m x

/-- RAM with one byte written; the canonical form is kept. -/
def Ram.write : Ram → Nat → Byte → Ram
  | [], x, v => if v = Config.ramDefault then [] else [(x, v)]
  | (a, b) :: m, x, v =>
    if a < x then (a, b) :: Ram.write m x v
    else if a = x then (if v = Config.ramDefault then m else (x, v) :: m)
    else if v = Config.ramDefault then (a, b) :: m
    else (x, v) :: (a, b) :: m

/-- The canonical form from an offset on: offsets strictly rising, inside RAM, no entry at the default. -/
def Ram.wfFrom : Nat → Ram → Bool
  | _, [] => true
  | lo, (a, b) :: m =>
    decide (lo ≤ a) && decide (a < Config.ramSize) && decide (b ≠ Config.ramDefault) && Ram.wfFrom (a + 1) m

/-- The canonical form of RAM. -/
def Ram.wf (m : Ram) : Bool := Ram.wfFrom 0 m

/-- An offset the part forms, on 15 address pins (log 26). -/
def ramOffset (n : Nat) : Nat := n % Config.ramSize

/-! ## Settings in force -/

/-- Settings with every field 0: what an accessor gives before acceptance, when no rule reads one (log 30). -/
def Settings.blank : Settings where
  statusBase := 0
  requestBase := 0
  jobBase := 0
  jobCode := 0
  slipBase := 0
  slipCode := 0
  scanBase := 0
  scanCode := 0
  feedBase := 0
  feedCode := 0
  strip := 0
  image := 0
  gap := 0
  conversions := 0
  noiseLimit := 0
  minContrast := 0
  stripFaultLimit := 0
  defaultWhite := 0
  defaultBlack := 0
  curves := []
  blackTone := 0
  whiteTone := 0
  outputGain := 0
  startRevs := 0
  phasingRevs := 0
  stopRevs := 0
  pulseWidth := 0
  ready := ⟨0, 0⟩
  halt := ⟨0, 0⟩
  receipt := ⟨0, 0⟩
  persistence := 0
  readyTimeout := 0
  receiptTimeout := 0
  kp := 0
  ki := 0
  baseDuty0 := 0
  baseDuty1 := 0
  baseDuty2 := 0
  spinupDuty := 0
  lockWindow := 0
  excursion := 0
  faultLimit := 0
  lockTimeout := 0
  stallTime := 0
  stepsPerLine := 0
  returnStep := 0
  homeTimeout := 0
  positionLimit := 0
  lampSettle := 0
  stallLimit := 0
  statusSpacing := 0
  windowExpiry := 0
  attentionMask := 0

/-- Derived values with every field 0, likewise. -/
def Derived.blank : Derived where
  slots := 0
  statusExtent := ⟨0, 0⟩
  requestExtent := ⟨0, 0⟩
  jobExtent := ⟨0, 0⟩
  slipExtent := ⟨0, 0⟩
  scanExtent := ⟨0, 0⟩
  feedExtent := ⟨0, 0⟩
  lockCount := 0
  stallCount := 0
  homeCount := 0
  lampCount := 0
  readyCount := 0
  receiptCount := 0
  readyBand := ⟨0, 0⟩
  haltBand := ⟨0, 0⟩
  receiptBand := ⟨0, 0⟩
  blackIncrement := 0
  whiteIncrement := 0

/-- The settings in force. -/
def Part.settings (p : Part) : Settings :=
  match p.loader.accepted with
  | some a => a.settings
  | none => .blank

/-- The derived values in force. -/
def Part.derived (p : Part) : Derived :=
  match p.loader.accepted with
  | some a => a.derived
  | none => .blank

def Settings.jobSize (s : Settings) : Nat := Config.recordRingSize s.jobCode
def Settings.slipSize (s : Settings) : Nat := Config.recordRingSize s.slipCode
def Settings.scanSize (s : Settings) : Nat := Config.lineRingSize s.scanCode
def Settings.feedSize (s : Settings) : Nat := Config.lineRingSize s.feedCode

/-- Bytes of a line slot: 4 + P. -/
def Settings.slotBytes (s : Settings) : Nat := 4 + s.image

/-- Q = S + P + G (1.6). -/
def Settings.slots (s : Settings) : Nat := s.strip + s.image + s.gap

/-- Base duty of a speed code (Table 2.3-1). -/
def Settings.baseDuty (s : Settings) : Nat → Nat
  | 0 => s.baseDuty0
  | 1 => s.baseDuty1
  | _ => s.baseDuty2

/-- Whether the placement of R3 is in force. -/
def Part.placed (p : Part) : Bool := p.loader.device = .closed || p.loader.device = .opened

/-- Whether the device is OPEN. -/
def Part.isOpen (p : Part) : Bool := p.loader.device = .opened

/-! ## Extents (R3) -/

def Region.covers (r : Region) (x : Nat) : Bool := decide (r.start ≤ x) && decide (x < r.start + r.length)

/-- Entry `i` of a ring of entries of `size` bytes. -/
def ringEntry (base size i : Nat) : Region := ⟨base + i * size, size⟩

def Settings.statusRegion (s : Settings) : Region := ⟨s.statusBase, Config.statusBytes⟩
def Settings.jobEntry (s : Settings) (i : Nat) : Region := ringEntry s.jobBase Config.jobBytes i
def Settings.slipEntry (s : Settings) (i : Nat) : Region := ringEntry s.slipBase Config.slipBytes i
def Settings.scanSlot (s : Settings) (i : Nat) : Region := ringEntry s.scanBase s.slotBytes i
def Settings.feedSlot (s : Settings) (i : Nat) : Region := ringEntry s.feedBase s.slotBytes i

/-- The slot a line is read from. -/
def Settings.lineSlot (s : Settings) : LineRing → Nat → Region
  | .scan, i => s.scanSlot i
  | .feed, i => s.feedSlot i

/-! ## Guard set (Table 1.4-1) -/

def optionCovers (r : Option Region) (x : Nat) : Bool :=
  match r with
  | some r => r.covers x
  | none => false

/-- Whether an offset lies in the guard set. -/
def GuardSet.covers (g : GuardSet) (x : Nat) : Bool :=
  optionCovers g.statusBlock x || optionCovers g.jobEntry x || optionCovers g.scanFill x ||
    optionCovers g.sending x || optionCovers g.slipEntry x

def Part.guardJob (p : Part) (r : Option Region) : Part :=
  p.onPath fun m => { m with guards := { m.guards with jobEntry := r } }
def Part.guardFill (p : Part) (r : Option Region) : Part :=
  p.onPath fun m => { m with guards := { m.guards with scanFill := r } }
def Part.guardSending (p : Part) (r : Option Region) : Part :=
  p.onPath fun m => { m with guards := { m.guards with sending := r } }
def Part.guardSlip (p : Part) (r : Option Region) : Part :=
  p.onPath fun m => { m with guards := { m.guards with slipEntry := r } }

/-! ## Codes -/

/-- High nibble of status byte 7 (R17). -/
def DeviceState.code : DeviceState → Nat
  | .loading => 0 | .passOnly => 1 | .closed => 2 | .opened => 3

/-- Low nibble of status byte 8 (Table 4-1). -/
def DrumState.code : DrumState → Nat
  | .stopped => 0 | .spinup => 1 | .locking => 2 | .locked => 3 | .spindown => 4

/-- Low nibble of status byte 7 (Table 6-1). -/
def ScannerState.code : ScannerState → Nat
  | .idle => 0 | .homing => 1 | .warmup => 2 | .waitLock => 3 | .scan => 4 | .back => 5

/-- High nibble of status byte 8 (Table 8-1). -/
def SenderState.code : SenderState → Nat
  | .idle => 0 | .calling => 1 | .standby => 2 | .start => 3 | .phasing => 4 | .image => 5 | .stop => 6
  | .awaitReceipt => 7

/-- Status byte 30 (R146). -/
def Tone.code : Tone → Nat
  | .ready => 1 | .halt => 2 | .receipt => 3

/-- Byte 2 of a job record (Table 12.3-1). -/
def JobKind.code : JobKind → Nat
  | .live => 1 | .store => 2 | .relay => 3 | .other n => n

/-- Status byte 26 (R42). -/
def CommandResult.code : CommandResult → Nat
  | .done => 0 | .unknown => 1 | .notOpen => 2 | .badArg => 3 | .nothing => 4

/-- Result codes and event kinds (Table 10.2-1, R153). -/
def Cause.code : Cause → Nat
  | .delivered => 0x00 | .sent => 0x01 | .sentUnconfirmed => 0x02 | .stored => 0x03
  | .rejected => 0x10 | .halted => 0x11 | .noAnswer => 0x12 | .lineLost => 0x13 | .noLine => 0x14
  | .noLock => 0x20 | .drumStall => 0x21 | .speedFault => 0x22 | .lampFault => 0x23 | .homeFault => 0x24
  | .scanStall => 0x25 | .feedStall => 0x26
  | .aborted => 0x30 | .cancelled => 0x31 | .badJob => 0x32
  | .readyUnexpected => 0x40 | .receiptUnexpected => 0x41 | .haltLate => 0x42 | .feedOrder => 0x43
  | .homeLate => 0x44 | .abortLate => 0x45

/-- A kind that is always placed and never becomes the first cause (R37). -/
def Cause.isEvent (c : Cause) : Bool := decide (0x40 ≤ c.code)

/-- A first cause that records a detail (R38). -/
def Cause.hasDetail (c : Cause) : Bool := decide (0x10 ≤ c.code) && decide (c ≠ .cancelled)

/-- A completion code that starts the HOLD_SPIN carry-over (R41). -/
def Cause.isCompletion (c : Cause) : Bool := decide (c.code < 0x10)

/-- Fault side of a cause (Table 3.3-1): 1 scanner, 2 sender, 3 host, 4 far end, 5 dispatcher. -/
def Cause.side : Cause → Nat
  | .noLock | .drumStall | .speedFault | .lampFault | .homeFault | .scanStall | .homeLate => 1
  | .noLine | .lineLost | .feedStall | .feedOrder => 2
  | .aborted | .abortLate => 3
  | .halted | .rejected | .noAnswer | .readyUnexpected | .receiptUnexpected | .haltLate => 4
  | .badJob => 5
  | .delivered | .sent | .sentUnconfirmed | .stored | .cancelled => 0

/-! ## Job contexts -/

/-- The context in a slot. -/
def Part.jobAt (p : Part) : JobSlot → Option Job
  | .scan => p.disp.scanJob
  | .relay => p.disp.relayJob

/-- Changes the context in a slot, if there is one. -/
def Part.onJob (p : Part) (slot : JobSlot) (f : Job → Job) : Part :=
  match slot with
  | .scan => p.onDisp fun d => { d with scanJob := d.scanJob.map f }
  | .relay => p.onDisp fun d => { d with relayJob := d.relayJob.map f }

/-- Changes a context's tally. -/
def Part.onTally (p : Part) (slot : JobSlot) (f : Tally → Tally) : Part :=
  p.onJob slot fun j => { j with tally := f j.tally }

/-- Where the running job that holds the sender stands: the RELAY, or the LIVE that holds the scanner (R32). -/
def Part.senderSlot (p : Part) : Option JobSlot :=
  match p.disp.relayJob with
  | some _ => some .relay
  | none =>
    match p.disp.scanJob with
    | some j => if j.spec.kind = .live then some .scan else none
    | none => none

/-- The running job that holds the sender. -/
def Part.senderJob (p : Part) : Option Job :=
  match p.senderSlot with
  | some slot => p.jobAt slot
  | none => none

/-- Changes the tally of the job that holds the sender. -/
def Part.onSenderTally (p : Part) (f : Tally → Tally) : Part :=
  match p.senderSlot with
  | some slot => p.onTally slot f
  | none => p

/-- Whether the job that holds the scanner is a LIVE. -/
def Part.scanLive (p : Part) : Bool :=
  match p.disp.scanJob with
  | some j => j.spec.kind = .live
  | none => false

/-- Whether the job that holds the scanner is a STORE. -/
def Part.scanStore (p : Part) : Bool :=
  match p.disp.scanJob with
  | some j => j.spec.kind = .store
  | none => false

/-- Jobs running (R33). -/
def Part.runningJobs (p : Part) : Nat :=
  (if p.disp.scanJob.isSome then 1 else 0) + (if p.disp.relayJob.isSome then 1 else 0)

/-- Entries the job ring holds: (producer − consumer) mod size (R28). -/
def Part.jobEntries (p : Part) : Nat :=
  ringDist p.settings.jobSize p.disp.jobConsumer p.disp.jobProducer

end Sys2Proof.Machine
end

