-- ==== Sys2Proof/Machine/Flags.lean ====
section
/-! DEFINITION. The block's flags: the eight attention causes and ATTN (R164 to R166), the status block image
byte by byte (Table 12.2-1), and the dirty mark (R160). -/

namespace Sys2Proof.Machine

/-- Bit of a cause in status byte 1 and in the mask (Table 11.4-1). -/
def Attention.bit : Attention → Byte
  | .slip => 0x01 | .jobTaken => 0x02 | .scanLine => 0x04 | .feedFree => 0x08
  | .command => 0x10 | .guard => 0x20 | .drum => 0x40 | .start => 0x80

/-- ATTN follows whether some pending cause is enabled (R166). -/
def attnLevel (pending mask : Byte) : Bool := decide (pending &&& mask ≠ 0)

/-- Sets the pending set and the fresh marks, and ATTN with them. -/
def Part.setCauses (p : Part) (pending fresh : Byte) : Part :=
  p.onStatus fun t =>
    { t with pending := pending, fresh := fresh, attn := attnLevel pending p.settings.attentionMask }

/-- A raise: the cause joins the pending set, its fresh mark is set, and the block is dirty and urgent
(R160, R164). -/
def Part.raise (p : Part) (c : Attention) : Part :=
  (p.setCauses (p.status.pending ||| c.bit) (p.status.fresh ||| c.bit)).onStatus fun t =>
    { t with dirty := true, urgent := true }

/-- High and low nibble of a byte. -/
def nibbles (high low : Nat) : Byte := BitVec.ofNat 8 (16 * (high % 16) + low % 16)

/-- The position as shown: FFFFH while unknown (R84). -/
def shownPosition (position : Option Nat) : Nat := position.getD 0xFFFF

/-- Byte `i` of the status block (Table 12.2-1). -/
def statusByte (p : Part) (i : Nat) : Byte :=
  match i with
  | 0 => p.status.sequence
  | 1 => p.status.pending
  | 2 => lowByte p.disp.jobConsumer
  | 3 => lowByte p.slips.producer
  | 4 => lowByte p.scanner.producer
  | 5 => lowByte p.scanner.senderIndex
  | 6 => lowByte p.sender.feedConsumer
  | 7 => nibbles p.loader.device.code p.scanner.state.code
  | 8 => nibbles p.sender.state.code p.servo.drum.code
  | 9 => lowByte p.servo.period
  | 10 => highByte p.servo.period
  | 11 => lowByte (p.servo.period / 65536)
  | 12 => lowByte p.scanner.white
  | 13 => highByte p.scanner.white
  | 14 => lowByte p.scanner.black
  | 15 => highByte p.scanner.black
  | 16 => lowByte p.scanner.line
  | 17 => highByte p.scanner.line
  | 18 => lowByte p.sender.line
  | 19 => highByte p.sender.line
  | 20 => lowByte (shownPosition p.scanner.position)
  | 21 => highByte (shownPosition p.scanner.position)
  | 22 => lowByte p.path.guardHits
  | 23 => lowByte p.path.firstGuarded
  | 24 => highByte p.path.firstGuarded
  | 25 => p.disp.lastCode
  | 26 => lowByte p.disp.lastResult.code
  | 27 => p.disp.commandCount
  | 28 => lowByte p.disp.rejections
  | 29 => lowByte p.status.forced
  | 30 => match p.status.lastTone with
    | some t => lowByte t.code
    | none => 0
  | _ => p.status.sequence

/-- The fields of the image whose change marks the block dirty: bytes 1 to 30. Bytes 0 and 31 change at the
start of a write, which clears the marks (R162). -/
def statusFields (p : Part) : List Byte := (List.range 30).map fun i => statusByte p (i + 1)

/-- Marks the block dirty when an event has changed a field of the image (R160, log 16). -/
def markChanges (before after : Part) : Part :=
  if statusFields before = statusFields after then after
  else after.onStatus fun t => { t with dirty := true }

end Sys2Proof.Machine
end

