-- ==== Sys2Proof/Machine/Pixel.lean ====
section
/-! DEFINITION. Pixel arithmetic (ch 07): the scan stage from conversions to a pixel or references, and the
tone stage from a pixel to a DAC code. Pure functions, as the chapter says: the block keeps no running state. -/

namespace Sys2Proof.Machine

/-! ## Scan stage -/

/-- Mean of the conversions of a slot, halves rounded up (R106). -/
def slotMean (xs : List Nat) : Nat := (xs.sum + xs.length / 2) / xs.length

/-- Largest conversion less the smallest (R106). -/
def slotSpread (xs : List Nat) : Nat := xs.foldl max 0 - xs.foldl min (xs.headD 0)

/-- Noisy: a spread above the noise limit, or no conversion at all (R106). -/
def slotNoisy (noiseLimit : Nat) (xs : List Nat) : Bool := xs.isEmpty || decide (noiseLimit < slotSpread xs)

/-- The pixel of a clean mean `m` with references `w` and `b` (R108). -/
def normalizedPixel (w b m : Nat) : Nat :=
  if m ≤ b then 0
  else if w - b ≤ m - b then 255
  else (510 * (m - b) + (w - b)) / (2 * (w - b))

/-- The pixel of an image slot (R107): the normalized mean, or the previous pixel of the line, or 255 for
the first image slot, when the slot is held. -/
def imagePixel (noiseLimit w b : Nat) (previous : Option Nat) (xs : List Nat) : Nat :=
  if slotNoisy noiseLimit xs then previous.getD 255 else normalizedPixel w b (slotMean xs)

/-- White candidates: slots 2 to S/2 − 3 (R109). -/
def whiteCandidate (strip k : Nat) : Bool := decide (2 ≤ k) && decide (k + 3 ≤ strip / 2)

/-- Black candidates: slots S/2 + 2 to S − 3 (R109). -/
def blackCandidate (strip k : Nat) : Bool := decide (strip / 2 + 2 ≤ k) && decide (k + 3 ≤ strip)

/-- A patch's reference from its usable slots, or none when fewer than half of its candidates are usable (R110). -/
def patchReference (strip sum count : Nat) : Option Nat :=
  if 2 * count < strip / 2 - 4 then none else some ((sum + count / 2) / count)

/-- New white and black references, or none for a strip fault (R110). -/
def newReferences (strip minContrast : Nat) (l : OpenLine) : Option (Nat × Nat) :=
  match patchReference strip l.whiteSum l.whiteCount, patchReference strip l.blackSum l.blackCount with
  | some w, some b => if b + minContrast ≤ w then some (w, b) else none
  | _, _ => none

/-! ## Tone stage -/

/-- The level of a pixel under a curve of 17 points (R111). -/
def curveLevel (curve : List Nat) (n : Nat) : Nat :=
  let c : Nat → Int := fun i => ((curve.getD i 0 : Nat) : Int)
  let i := n / 16
  let t := (c (i + 1) - c i) * ((n % 16 : Nat) : Int)
  (c i + (t + 8) / 16).toNat

/-- The phase increment of a level (R112). -/
def levelIncrement (blackTone whiteTone level : Nat) : Nat :=
  let num : Int := ((blackTone : Int) * 255 + ((whiteTone : Int) - (blackTone : Int)) * (level : Int)) * 65536
  ((num + 1020000) / 2040000).toNat

/-- First quarter of the sine table, round(127 × sin(2πi / 256)) for i = 0 to 64 (R115). -/
def sineQuarter : List Nat :=
  [0, 3, 6, 9, 12, 16, 19, 22, 25, 28, 31, 34, 37, 40, 43, 46, 49, 51, 54, 57, 60, 63] ++
  [65, 68, 71, 73, 76, 78, 81, 83, 85, 88, 90, 92, 94, 96, 98, 100, 102, 104, 106, 107] ++
  [109, 111, 112, 113, 115, 116, 117, 118, 120, 121, 122, 122, 123, 124, 125, 125, 126] ++
  [126, 126, 127, 127, 127, 127]

/-- The sine table, 256 points (R115). -/
def sineTable (i : Nat) : Int :=
  if i ≤ 64 then ((sineQuarter.getD i 0 : Nat) : Int)
  else if i ≤ 128 then ((sineQuarter.getD (128 - i) 0 : Nat) : Int)
  else if i ≤ 192 then -((sineQuarter.getD (i - 128) 0 : Nat) : Int)
  else -((sineQuarter.getD (256 - i) 0 : Nat) : Int)

/-- The phase after a sample (R115). -/
def nextPhase (phase inc : Nat) : Nat := (phase + inc) % 65536

/-- The DAC code of a phase at gain `g` (R115). -/
def dacCode (phase g : Nat) : Nat := (128 + sineTable (phase / 256) * (g : Int) / 16).toNat

end Sys2Proof.Machine
end

