-- ==== Sys2Proof/Machine/Operands.lean ====
section
/-! DEFINITION. The record formats (ch 12) as the part reads and writes them: the settings image with its
checks and derived values (R19 to R22, R24), the job record (R31), the line header (R95) and the slip
(R148 to R154). -/

namespace Sys2Proof.Machine

/-! ## Settings image (Table 12.6-1) -/

def imageByte (img : List Byte) (i : Nat) : Nat := (img.getD i 0).toNat

/-- A two-byte field, low byte first (R21). -/
def imageWord (img : List Byte) (i : Nat) : Nat := imageByte img i + 256 * imageByte img (i + 1)

/-- The 17 points of the curve that begins at byte `i`. -/
def imageCurve (img : List Byte) (i : Nat) : List Nat := (List.range 17).map fun k => imageByte img (i + k)

/-- The settings of an image. -/
def parseSettings (img : List Byte) : Settings where
  statusBase := imageWord img 4
  requestBase := imageWord img 6
  jobBase := imageWord img 8
  jobCode := imageByte img 10
  slipBase := imageWord img 11
  slipCode := imageByte img 13
  scanBase := imageWord img 14
  scanCode := imageByte img 16
  feedBase := imageWord img 17
  feedCode := imageByte img 19
  strip := imageByte img 20
  image := imageWord img 21
  gap := imageByte img 23
  conversions := imageByte img 24
  noiseLimit := imageWord img 25
  minContrast := imageWord img 27
  stripFaultLimit := imageByte img 29
  defaultWhite := imageWord img 30
  defaultBlack := imageWord img 32
  curves := [imageCurve img 34, imageCurve img 51, imageCurve img 68, imageCurve img 85]
  blackTone := imageWord img 102
  whiteTone := imageWord img 104
  outputGain := imageByte img 106
  startRevs := imageByte img 107
  phasingRevs := imageByte img 108
  stopRevs := imageByte img 109
  pulseWidth := imageByte img 110
  ready := ⟨imageWord img 111, imageByte img 113⟩
  halt := ⟨imageWord img 114, imageByte img 116⟩
  receipt := ⟨imageWord img 117, imageByte img 119⟩
  persistence := imageByte img 120
  readyTimeout := imageByte img 121
  receiptTimeout := imageByte img 122
  kp := imageByte img 123
  ki := imageByte img 124
  baseDuty0 := imageWord img 125
  baseDuty1 := imageWord img 127
  baseDuty2 := imageWord img 129
  spinupDuty := imageWord img 131
  lockWindow := imageWord img 133
  excursion := imageWord img 135
  faultLimit := imageWord img 137
  lockTimeout := imageByte img 139
  stallTime := imageByte img 140
  stepsPerLine := imageByte img 141
  returnStep := imageByte img 142
  homeTimeout := imageByte img 143
  positionLimit := imageWord img 144
  lampSettle := imageByte img 146
  stallLimit := imageByte img 147
  statusSpacing := imageByte img 148
  windowExpiry := imageByte img 149
  attentionMask := img.getD 150 0

/-- Marker, version and length, by byte number (R19); any other byte passes. -/
def headerByteGood (i : Nat) (b : Byte) : Bool :=
  match i with
  | 0 => b = 0x48
  | 1 => b = 0x43
  | 2 => b = 0x01
  | 3 => b = 0x97
  | _ => true

/-- The stored sum field (R20). -/
def storedSum (img : List Byte) : BitVec 16 := BitVec.ofNat 16 (imageWord img 151)

def inRange (lo hi x : Nat) : Bool := decide (lo ≤ x) && decide (x ≤ hi)

def toneInRange (t : ToneSetting) : Bool := inRange 300 3400 t.centre && inRange 10 200 t.tolerance

/-- The range check (R21, Table 2.3-1), in the table's order. -/
def Settings.rangesGood (s : Settings) : Bool :=
  [inRange 0 0x7FE0 s.statusBase, decide (s.statusBase % 32 = 0), inRange 0 0x7FFA s.requestBase,
   inRange 0 0x7FFF s.jobBase, inRange 0 3 s.jobCode, inRange 0 0x7FFF s.slipBase, inRange 0 3 s.slipCode,
   inRange 0 0x7FFF s.scanBase, inRange 0 2 s.scanCode, inRange 0 0x7FFF s.feedBase,
   inRange 0 2 s.feedCode].all id &&
  [inRange 16 64 s.strip, decide (s.strip % 8 = 0), inRange 128 1024 s.image, decide (s.image % 16 = 0),
   inRange 8 64 s.gap, decide (s.conversions ∈ [1, 2, 4, 8]), inRange 0 1023 s.noiseLimit,
   inRange 16 1023 s.minContrast, inRange 1 15 s.stripFaultLimit, inRange 0 1023 s.defaultWhite,
   inRange 0 1023 s.defaultBlack].all id &&
  [inRange 800 3000 s.blackTone, inRange 800 3000 s.whiteTone, inRange 1 16 s.outputGain,
   inRange 1 63 s.startRevs, inRange 1 31 s.phasingRevs, inRange 1 15 s.stopRevs,
   inRange 1 s.strip s.pulseWidth, toneInRange s.ready, toneInRange s.halt, toneInRange s.receipt,
   inRange 8 255 s.persistence, inRange 1 255 s.readyTimeout, inRange 1 255 s.receiptTimeout].all id &&
  [inRange 0 1024 s.baseDuty0, inRange 0 1024 s.baseDuty1, inRange 0 1024 s.baseDuty2,
   inRange 1 1024 s.spinupDuty, inRange 1 2000 s.lockWindow, inRange 1 4000 s.excursion,
   inRange 1 8000 s.faultLimit, inRange 1 60 s.lockTimeout, inRange 1 8 s.stallTime].all id &&
  [inRange 1 16 s.stepsPerLine, inRange 1 255 s.returnStep, inRange 1 60 s.homeTimeout,
   inRange 1 65535 s.positionLimit, inRange 1 255 s.lampSettle, inRange 1 63 s.stallLimit,
   inRange 0 255 s.statusSpacing, inRange 1 255 s.windowExpiry].all id

/-- The six extents of Table 1.2-1. -/
def Settings.extents (s : Settings) : List Region :=
  [s.statusRegion, ⟨s.requestBase, 6⟩, ⟨s.jobBase, Config.jobBytes * s.jobSize⟩,
   ⟨s.slipBase, Config.slipBytes * s.slipSize⟩, ⟨s.scanBase, s.slotBytes * s.scanSize⟩,
   ⟨s.feedBase, s.slotBytes * s.feedSize⟩]

/-- Two regions share no offset. -/
def Region.disjoint (r t : Region) : Bool :=
  decide (r.start + r.length ≤ t.start) || decide (t.start + t.length ≤ r.start)

/-- No two regions of a list share an offset. -/
def pairwiseDisjoint : List Region → Bool
  | [] => true
  | r :: rs => rs.all r.disjoint && pairwiseDisjoint rs

/-- The band of an answer tone, in microseconds (R22, R142). -/
def ToneSetting.band (t : ToneSetting) : Band where
  low := (1000000 + (t.centre + t.tolerance) - 1) / (t.centre + t.tolerance)
  high := 1000000 / (t.centre - t.tolerance)

/-- Whether a cycle lies in a band (R142). -/
def Band.holds (b : Band) (p : Nat) : Bool := decide (b.low ≤ p) && decide (p ≤ b.high)

/-- Two bands share no value. -/
def Band.apart (a b : Band) : Bool := decide (a.high < b.low) || decide (b.high < a.low)

/-- A band holds a cycle length and lies below the silence time (R22). -/
def Band.usable (b : Band) : Bool := decide (b.low ≤ b.high) && decide (b.high < Config.silenceMicros)

/-- The relation check (R22), in the table's order. -/
def Settings.relationsGood (s : Settings) : Bool :=
  pairwiseDisjoint s.extents && s.extents.all (fun r => decide (r.start + r.length ≤ Config.ramSize)) &&
  decide (s.defaultBlack + s.minContrast ≤ s.defaultWhite) &&
  decide (3 * s.conversions ≤ 31250 / s.slots) && decide (s.pulseWidth ≤ s.strip) &&
  (decide (s.blackTone + 200 ≤ s.whiteTone) || decide (s.whiteTone + 200 ≤ s.blackTone)) &&
  s.ready.band.usable && s.halt.band.usable && s.receipt.band.usable &&
  s.ready.band.apart s.halt.band && s.ready.band.apart s.receipt.band && s.halt.band.apart s.receipt.band &&
  decide (s.lockWindow ≤ s.excursion) && decide (s.excursion ≤ s.faultLimit)

/-- The values derived at acceptance (R24). -/
def Settings.derive (s : Settings) : Derived where
  slots := s.slots
  statusExtent := s.statusRegion
  requestExtent := ⟨s.requestBase, 6⟩
  jobExtent := ⟨s.jobBase, Config.jobBytes * s.jobSize⟩
  slipExtent := ⟨s.slipBase, Config.slipBytes * s.slipSize⟩
  scanExtent := ⟨s.scanBase, s.slotBytes * s.scanSize⟩
  feedExtent := ⟨s.feedBase, s.slotBytes * s.feedSize⟩
  lockCount := 100 * s.lockTimeout
  stallCount := 100 * s.stallTime
  homeCount := 100 * s.homeTimeout
  lampCount := s.lampSettle
  readyCount := 100 * s.readyTimeout
  receiptCount := 100 * s.receiptTimeout
  readyBand := s.ready.band
  haltBand := s.halt.band
  receiptBand := s.receipt.band
  blackIncrement := levelIncrement s.blackTone s.whiteTone 0
  whiteIncrement := levelIncrement s.blackTone s.whiteTone 255

/-! ## Job record (Table 12.3-1) -/

/-- The kind a byte names. -/
def JobKind.ofByte (b : Byte) : JobKind :=
  match b.toNat with
  | 1 => .live
  | 2 => .store
  | 3 => .relay
  | n => .other n

/-- A record as read, its defaults not yet resolved. -/
def rawSpec (bytes : List Byte) : JobSpec :=
  let b : Nat → Byte := fun i => bytes.getD i 0
  { tag := BitVec.ofNat 16 (word16 (b 0) (b 1)), kind := JobKind.ofByte (b 2), speed := (b 3).toNat,
    lines := word16 (b 4) (b 5), curve := (b 6).toNat, startRevs := (b 7).toNat,
    phasingRevs := (b 8).toNat, gain := (b 10).toNat, waitReady := (b 9).getLsbD 0,
    waitReceipt := (b 9).getLsbD 1, keep := (b 9).getLsbD 2, holdSpin := (b 9).getLsbD 3,
    noStrip := (b 9).getLsbD 4 }

/-- Whether a kind is none of LIVE, STORE and RELAY. -/
def JobKind.isOther : JobKind → Bool
  | .other _ => true
  | _ => false

/-- Offset of the first bad field of a record, in the order of R31's table, or none for a valid record. -/
def firstBadField (s : JobSpec) : Option Nat :=
  if s.kind.isOther then some 2
  else if 3 ≤ s.speed then some 3
  else if s.lines = 0 ∨ 4095 < s.lines then some 4
  else if 3 < s.curve then some 6
  else if 63 < s.startRevs then some 7
  else if 31 < s.phasingRevs then some 8
  else if 16 < s.gain then some 10
  else none

/-- A job-record value, or the setting when it is 0 (R31). -/
def orDefault (value setting : Nat) : Nat := if value = 0 then setting else value

/-- A valid record with its defaults resolved and the flags foreign to its kind dropped (R31). -/
def resolveSpec (cfg : Settings) (s : JobSpec) : JobSpec :=
  { s with startRevs := orDefault s.startRevs cfg.startRevs,
           phasingRevs := orDefault s.phasingRevs cfg.phasingRevs,
           gain := orDefault s.gain cfg.outputGain,
           waitReady := s.waitReady && decide (s.kind = .live ∨ s.kind = .relay),
           waitReceipt := s.waitReceipt && decide (s.kind = .live ∨ s.kind = .relay),
           keep := s.keep && decide (s.kind = .live),
           holdSpin := s.holdSpin && decide (s.kind = .live ∨ s.kind = .store),
           noStrip := s.noStrip && decide (s.kind = .live ∨ s.kind = .store) }

/-- The pending record of sixteen fetched bytes (R30, R31). -/
def takenRecord (cfg : Settings) (bytes : List Byte) (toCancel : Bool) : PendingJob :=
  let raw := rawSpec bytes
  match firstBadField raw with
  | some offset => ⟨raw, some offset, toCancel, false⟩
  | none => ⟨resolveSpec cfg raw, none, toCancel, false⟩

/-! ## Line header (Table 12.4-1) -/

/-- The four header bytes of a scanned line (R95). -/
def headerBytes (line noise : Nat) (stripOk : Bool) : List Byte :=
  [lowByte line, highByte line, if stripOk then 1 else 0, lowByte (min 255 noise)]

/-! ## Slip (Table 12.5-1) -/

def bitIf (c : Bool) (weight : Nat) : Nat := if c then weight else 0

/-- Slip byte 2 (R150). -/
def slipFlags (t : Tally) : Byte :=
  lowByte (bitIf t.isShort 1 + bitIf t.detail.isSome 2 + bitIf (decide (0 < t.dropped)) 4 +
    bitIf t.notHome 8 + bitIf t.keepUsed 16)

/-- Slip byte 28 (R149). -/
def toneByte (t : ToneSet) : Byte := lowByte (bitIf t.ready 1 + bitIf t.halt 2 + bitIf t.receipt 4)

def wordBytes (n : Nat) : List Byte := [lowByte n, highByte n]

/-- The three bytes of event entry `i`, zero beyond the entries kept (R153). -/
def eventBytes (events : List JobEvent) (i : Nat) : List Byte :=
  match events[i]? with
  | some e => lowByte e.kind.code :: wordBytes e.line
  | none => [0, 0, 0]

/-- Bytes 44 to 47, zero without a detail (R152). -/
def detailBytes (d : Option Detail) : List Byte :=
  match d with
  | some d => lowByte d.side :: lowByte d.state :: wordBytes d.line
  | none => [0, 0, 0, 0]

/-- The 48 bytes of a slip with its sequence. -/
def Slip.bytes (s : Slip) (sequence : Byte) : List Byte :=
  let t := s.tally
  [sequence, lowByte s.result.code, slipFlags t,
    lowByte (16 * min 15 s.spec.kind.code + min 15 s.spec.speed)] ++
  wordBytes s.spec.tag.toNat ++ wordBytes s.spec.lines ++ wordBytes t.linesFresh ++
  wordBytes t.linesRepeated ++ wordBytes t.lineEvents ++ wordBytes t.noiseHeld ++ wordBytes t.underruns ++
  [lowByte t.damaged, lowByte t.skipped, lowByte t.stripFaults, lowByte t.excursions] ++
  wordBytes t.worstError ++ wordBytes t.white ++ wordBytes t.black ++
  [toneByte t.tones, lowByte t.phasingSent, lowByte t.events.length, lowByte t.dropped] ++
  eventBytes t.events 0 ++ eventBytes t.events 1 ++ eventBytes t.events 2 ++ eventBytes t.events 3 ++
  detailBytes t.detail

end Sys2Proof.Machine
end

