-- ==== Sys2Proof/Machine/Ports.lean ====
section
/-! DEFINITION. The requests of the five part requesters, their urgency, and the grant of the RAM port to a
part request (1.5, R11 to R13). -/

namespace Sys2Proof.Machine

/-- Whether a requester has a request outstanding, judged while no transfer of its own holds the port:
line reads (R132), scan writes (R95), status writes (R162), slip writes (R156), job fetch (R29). -/
def Part.wants (p : Part) : Requester → Bool
  | .lineSender =>
    match p.sender.hand with
    | some h => decide (h.kind ≠ .white) && decide (h.nextRead < p.settings.slotBytes) &&
        decide (p.sender.fifo.length < Config.fifoSize)
    | none => false
  | .scanner =>
    match p.scanner.openLine with
    | some l => !l.damaged && !p.scanner.fifo.isEmpty
    | none => false
  | .statusWriter => p.status.write.isSome
  | .slipWriter => p.slips.write.isSome
  | .dispatcher => p.disp.fetch.isSome

/-- The requests outstanding, in the order of Table 1.5-1. -/
def Part.requests (p : Part) : List Requester :=
  [.lineSender, .scanner, .statusWriter, .slipWriter, .dispatcher].filter p.wants

/-- Whether a request is urgent (R13). -/
def Part.urgent (p : Part) : Requester → Bool
  | .lineSender => p.wants .lineSender && decide (p.sender.fifo.length ≤ 16)
  | .scanner => p.wants .scanner && decide (48 ≤ p.scanner.fifo.length)
  | _ => false

/-- Where the next byte of the open line goes: pixels to offsets 4 to 3 + P, then the header to 0 to 3 (R95). -/
def scanWriteOffset (image written : Nat) : Nat :=
  if written < image then 4 + written else written - image

/-- The transfer a requester is granted: its offset, and the byte of a scan or slip write. -/
def Part.transferOf (p : Part) (r : Requester) : Transfer :=
  let s := p.settings
  match r with
  | .lineSender =>
    match p.sender.hand with
    | some h => ⟨r, ramOffset ((s.lineSlot h.ring h.slot).start + h.nextRead), 0, false⟩
    | none => ⟨r, 0, 0, true⟩
  | .scanner =>
    match p.scanner.openLine with
    | some l =>
      ⟨r, ramOffset ((s.scanSlot l.slot).start + scanWriteOffset s.image l.written), p.scanner.fifo.headD 0, false⟩
    | none => ⟨r, 0, 0, true⟩
  | .statusWriter => ⟨r, ramOffset (s.statusBase + p.status.write.getD 0), 0, false⟩
  | .slipWriter =>
    match p.slips.write, p.disp.slipQueue with
    | some w, slip :: _ =>
      ⟨r, ramOffset ((s.slipEntry w.entry).start + w.written),
        (slip.bytes (p.slips.sequence + 1)).getD w.written 0, false⟩
    | _, _ => ⟨r, 0, 0, true⟩
  | .dispatcher =>
    match p.disp.fetch with
    | some f => ⟨r, ramOffset ((s.jobEntry f.entry).start + f.bytes.length), 0, false⟩
    | none => ⟨r, 0, 0, true⟩

/-- Grants the port to a requester. At the grant of a scan write the oldest byte leaves the FIFO (R95). -/
def Part.grant (p : Part) (r : Requester) : Part :=
  let t := p.transferOf r
  let q := p.onPath fun m => { m with port := .part t }
  match r with
  | .scanner => q.onScanner fun c => { c with fifo := c.fifo.tail }
  | _ => q

/-- A part request that arrives while the port is idle is granted at once, the first in the order of
Table 1.5-1 (R11). -/
def grantIdle (p : Part) : Part :=
  match p.path.port, p.requests with
  | .idle, r :: _ => p.grant r
  | _, _ => p

/-- The owner of a transfer that holds the port stops the work it belongs to: the transfer completes, and
nothing is done with it beyond the byte it moves (R103, R132). -/
def Part.withdraw (p : Part) (r : Requester) : Part :=
  p.onPath fun m =>
    match m.port with
    | .part t => if t.who = r then { m with port := .part { t with withdrawn := true } } else m
    | _ => m

end Sys2Proof.Machine
end

