-- ==== Sys2Proof/Machine/Demands.lean ====
section
/-! DEFINITION. The demand list and what a change of the demand in force does to the drum (R52 to R60). -/

namespace Sys2Proof.Machine

/-- A demand counts while it is present and not set aside (R52). -/
def demandSpeed (d : Option Demand) : Option Nat :=
  match d with
  | some d => if d.aside then none else some d.speed
  | none => none

/-- Speed code of the demand in force: the first in list order that counts (R52). -/
def Demands.inForce (d : Demands) : Option Nat :=
  ((demandSpeed d.scanner).or (demandSpeed d.live)).or ((demandSpeed d.carry).or (demandSpeed d.hold))

/-- The demand in force is a job's: the scanner side's or the LIVE sender's (R63). -/
def Demands.ofJob (d : Demands) : Bool := (demandSpeed d.scanner).isSome || (demandSpeed d.live).isSome

/-- The demand in force is the carry-over or the SPIN hold (R60). -/
def Demands.ofHold (d : Demands) : Bool := !d.ofJob && d.inForce.isSome

/-- Sets a demand aside, when present (R67). -/
def setAside (d : Option Demand) : Option Demand := d.map fun d => { d with aside := true }

/-- Whether these demands put a job's in force (R63): that of the job that holds the scanner. -/
def Part.jobDemands (p : Part) (d : Demands) : Bool := d.ofJob && p.disp.scanJob.isSome

/-- Whether the drum has a job (R63). -/
def Part.drumHasJob (p : Part) : Bool := p.jobDemands p.servo.demands

def Part.onDemands (p : Part) (f : Demands → Demands) : Part :=
  p.onServo fun v => { v with demands := f v.demands }

/-- T + floor(T/4) of a speed code (Table 4.3-1). -/
def spinupLimit (speed : Nat) : Nat := Config.nominalPeriod speed + Config.nominalPeriod speed / 4

/-- The scanner arms: a LIVE in WAIT_LOCK while the drum is LOCKED (R90). -/
def armIfWaiting (p : Part) : Part :=
  if p.scanner.state = .waitLock ∧ p.scanLive ∧ p.servo.drum = .locked then
    p.onScanner fun c => { c with armed := true }
  else p

/-- The loss of LOCKED: the scanner is disarmed (R90), and the lock timer starts again for a scanner-side
demand in force whose scanner has not entered SCAN and that was not offered NO_LOCK (R65). -/
def loseLock (p : Part) : Part :=
  let q := p.onScanner fun c => { c with armed := false }
  if (demandSpeed q.servo.demands.scanner).isSome && !q.scanner.enteredScan && !q.servo.noLockOffered then
    q.onServo fun v => { v with lockTimer := 0, lockRunning := true }
  else q

/-- Entry to LOCKED: the lock timer stops (R65) and a waiting LIVE arms (R90). -/
def gainLock (p : Part) : Part := armIfWaiting (p.onServo fun v => { v with lockRunning := false })

/-- Entry to STOPPED: reference and period are cleared (R51), and the angle clock drops its schedule (R76).
DESIGN CHOICE (log 42): the wrap count becomes 0 with the reference, and the elapsed count and the slot numbers
keep their values; the rules name none of them there. -/
def enterStopped (p : Part) : Part :=
  (p.onServo fun v => { v with reference := none, wraps := 0, period := 0 }).onAngle fun a =>
    { a with schedule := none }

/-- Changes the drum state and reports it (R60). -/
def setDrum (d : DrumState) (p : Part) : Part :=
  if p.servo.drum = d then p
  else
    let was := p.servo.drum
    let q := p.onServo fun v => { v with drum := d }
    let q := if was = .locked then loseLock q else q
    match d with
    | .locked => gainLock q
    | .stopped => enterStopped q
    | _ => q

/-- D is written as duty and as next duty (R62). -/
def setDuty (d : Nat) (p : Part) : Part := p.onServo fun v => { v with duty := d, nextDuty := d }

/-- The run counts become 0 (R53, R67, R69). -/
def clearRuns (p : Part) : Part :=
  p.onServo fun v => { v with goodCount := 0, lockCount := 0, outsideCount := 0, faultCount := 0 }

/-- Entry to LOCKING at the target speed: I 0, D the base duty, lock count 0 (R54, R57). -/
def enterLocking (p : Part) : Part :=
  setDrum .locking
    (setDuty (p.settings.baseDuty p.servo.target) (p.onServo fun v => { v with integral := 0, lockCount := 0 }))

/-- Entry to SPINUP: D the spin-up duty, good spin-up count 0 (R54, R57). -/
def enterSpinup (p : Part) : Part :=
  setDrum .spinup (setDuty p.settings.spinupDuty (p.onServo fun v => { v with goodCount := 0 }))

/-- Drive starts from STOPPED or from SPINDOWN: the quiet count becomes 0 (R54, R57, R66). -/
def clearQuiet (p : Part) : Part := p.onServo fun v => { v with quiet := 0 }

/-- Change of target (R57): LOCKING when the measured period allows it, SPINUP otherwise. -/
def changeTarget (p : Part) : Part :=
  let q := p.onServo fun v => { v with outsideCount := 0, faultCount := 0 }
  if q.servo.period ≠ 0 ∧ q.servo.period ≤ spinupLimit q.servo.target then enterLocking q else enterSpinup q

/-- No demand remains in force (R53): D 0, run counts 0, the lock timer stops, SPINDOWN. -/
def enterSpindown (p : Part) : Part :=
  (setDrum .spindown (setDuty 0 (clearRuns p))).onServo fun v => { v with lockRunning := false }

/-- A demand with another target speed has come into force (R53). -/
def takeTarget (speed : Nat) (p : Part) : Part :=
  let q := p.onServo fun v => { v with target := speed }
  match q.servo.drum with
  | .stopped => clearQuiet (enterSpinup q)
  | .spindown => clearQuiet (changeTarget q)
  | _ => changeTarget q

/-- No demand is in force any more (R53). DESIGN CHOICE (log 49): the target speed code keeps its value, which
nothing reads until a demand comes into force again. -/
def dropTarget (p : Part) : Part :=
  match p.servo.drum with
  | .stopped | .spindown => p
  | _ => enterSpindown p

/-- What is tidied whenever demands have been found afresh: the lock timer does not run while the drum is
LOCKED (R65), and the speed-fault mark is clear while the drum has no job (R64). -/
def tidyServo (p : Part) : Part :=
  let q := if p.servo.drum = .locked then p.onServo fun v => { v with lockRunning := false } else p
  if q.drumHasJob then q else q.onServo fun v => { v with speedFaultMark := false }

/-- The demand in force as the servo last found it (R52), at an event that began in `before`. -/
def foundBefore (before after : Part) : Option Nat := after.servo.unsettled.getD before.servo.demands.inForce

/-- The servo acts on the change of the demand in force from `was` (R52, R53). -/
def actOnDemand (was : Option Nat) (p : Part) : Part :=
  let q := p.onServo fun v => { v with unsettled := none }
  if was = q.servo.demands.inForce then q
  else
    match q.servo.demands.inForce with
    | some speed => takeTarget speed q
    | none => dropTarget q

/-- The change of the demand in force from `was` is left to the dispatch that belongs to the event (log 52). -/
def leaveDemand (was : Option Nat) (p : Part) : Part :=
  p.onServo fun v => { v with unsettled := if was = v.demands.inForce then none else some was }

/-- The servo finds the demand in force afresh once, after every placing, withdrawal and setting aside of an
event, and acts when its speed has changed or it was gained or lost (R52, R53). An event that `awaits` a dispatch
is not yet at its end. -/
def settleDemand (awaits : Bool) (before after : Part) : Part :=
  let was := foundBefore before after
  tidyServo (if awaits then leaveDemand was after else actOnDemand was after)

end Sys2Proof.Machine
end

