-- ==== Sys2Proof/Machine/Sides.lean ====
section
/-! DEFINITION. How the two sides of a job leave their work: the release of a line (R127), the entry to STOP
(R134), the sender's arrival at IDLE (R138), leaving SCAN, the homing and the scanner's arrival at IDLE
(R86, R103, R104), wind-down (R39) and the offer of a cause (R36 to R38, R40). -/

namespace Sys2Proof.Machine

/-! ## Sender side -/

/-- Step 1 of R127, with R132: a line in hand is released. A taken line advances its ring's consumer index
and leaves the guard set, a feed slot raises FEEDFREE; a repeated line leaves the guard set alone. -/
def releaseHand (p : Part) : Part :=
  match p.sender.hand with
  | none => p
  | some h =>
    let q := (p.withdraw .lineSender).onSender fun d => { d with hand := none, fifo := [] }
    match h.kind, h.ring with
    | .white, _ => q
    | .repeated, _ => q.guardSending none
    | .taken, .scan =>
      (q.guardSending none).onScanner fun c =>
        { c with senderIndex := ringNext p.settings.scanSize c.senderIndex }
    | .taken, .feed =>
      ((q.guardSending none).onSender fun d =>
        { d with feedConsumer := ringNext p.settings.feedSize d.feedConsumer }).raise .feedFree

/-- Entry to STOP (R134): black, the line in hand released, STOP count 0. DESIGN CHOICE (log 46): the call mark is
cleared here; R126 ends the calls when the sender leaves IMAGE, and names no clearing of the mark at STOP. -/
def enterStop (p : Part) : Part :=
  (releaseHand p).onSender fun d =>
    { d with state := .stop, increment := p.derived.blackIncrement, stopCount := 0, callMark := false, fifo := [] }

/-- The line timer stops (R81): count 0 and no schedule. DESIGN CHOICE (log 47): the modulo keeps its value and the
slot number becomes 0, of which R81 says nothing. -/
def stopTimer (p : Part) : Part :=
  p.onTimer fun t => { t with running := none, count := 0, begun := false, nextStart := 0 }

/-- The line timer starts with modulo T of a speed code (R78, R80). -/
def startTimer (serves : Serves) (speed : Nat) (p : Part) : Part :=
  p.onTimer fun t =>
    { t with running := some serves, modulo := Config.nominalPeriod speed, count := 0, begun := false,
             nextStart := 0 }

/-- A side of the job that holds the sender has finished. -/
def markSenderDone (p : Part) : Part :=
  match p.senderSlot with
  | some slot => p.onJob slot fun j => { j with senderSide := { j.senderSide with finished := true } }
  | none => p

/-- The sender reaches IDLE (R138). DESIGN CHOICE: a timeout count that stops there becomes 0 (log 43), and the line
clock last used stays selected until the next dispatch (log 51). -/
def senderIdle (p : Part) : Part :=
  markSenderDone
    (stopTimer
      (((releaseHand p).onSender fun d =>
        { d with state := .idle, increment := 0, fifo := [], timeout := 0, lossCount := 0,
                 lossOffered := false, callMark := false }).onDemands fun d => { d with live := none }))

/-! ## Scanner side -/

/-- The job's SHORT, NOT_HOME and KEEP_USED flags (R150). -/
def setShort (slot : JobSlot) (p : Part) : Part := p.onTally slot fun t => { t with isShort := true }
def setNotHome (p : Part) : Part := p.onTally .scan fun t => { t with notHome := true }
def setKeepUsed (p : Part) : Part := p.onTally .scan fun t => { t with keepUsed := true }

/-- The references in use, recorded in the context at each change (R84). -/
def setReferences (white black : Nat) (p : Part) : Part :=
  (p.onScanner fun c => { c with white := white, black := black }).onTally .scan fun t =>
    { t with white := white, black := black }

/-- Leaving SCAN (R103): the open line, the FIFO, the set and the pulses still owed are dropped. -/
def leaveScan (p : Part) : Part :=
  ((p.withdraw .scanner).guardFill none).onScanner fun c =>
    { c with openLine := none, fifo := [], convSet := none, position := c.position.map (· - c.stepsOwed),
             stepsOwed := 0 }

/-- A STORE whose first cause is empty takes STORED at the scanner's IDLE (R104). -/
def offerStored (j : Job) : Job :=
  if j.spec.kind = .store ∧ j.firstCause = none then { j with firstCause := some .stored } else j

/-- The scanner reaches IDLE (R104, R41): its demand is withdrawn, the side has finished. DESIGN CHOICE (log 50): the
armed mark is clear here. -/
def scannerIdle (p : Part) : Part :=
  (((p.onScanner fun c => { c with state := .idle, homing := false, armed := false, reverse := false }).onServo
    fun v => { v with demands := { v.demands with scanner := none }, lockRunning := false }).onJob .scan
      fun j => offerStored { j with scannerSide := { j.scannerSide with finished := true } })

/-- A homing of RETURN ends found (R86, R104). -/
def returnFound (p : Part) : Part := scannerIdle (p.onScanner fun c => { c with position := some 0 })

/-- The start of a homing (R86): reverse, home timeout count 0. -/
def startHoming (p : Part) : Part :=
  p.onScanner fun c => { c with homing := true, reverse := true, homeCount := 0, stepTicks := 0 }

/-- Whether the scanner's job has HOME_FAULT as its first cause (R104). -/
def Part.homeFaulted (p : Part) : Bool :=
  match p.disp.scanJob with
  | some j => j.firstCause = some .homeFault
  | none => false

/-- Entry to RETURN (R104): LAMP off, then no homing, a homing found at once, or a homing. DESIGN CHOICE (log 50): the
armed mark falls here. -/
def enterReturn (p : Part) : Part :=
  let q := p.onScanner fun c => { c with state := .back, lamp := false, armed := false, homing := false }
  if q.homeFaulted then
    scannerIdle (setNotHome (q.onScanner fun c => { c with position := none }))
  else if q.pins.home then
    (if q.scanner.position = some 0 then scannerIdle q else returnFound (startHoming q))
  else startHoming q

/-- A scanner side told to wind down (R39, R87, R88). -/
def windDownScanner (p : Part) : Part :=
  match p.scanner.state with
  | .homing => enterReturn (p.onScanner fun c => { c with position := none })
  | .warmup | .waitLock => enterReturn p
  | .scan => enterReturn (leaveScan p)
  | .back | .idle => p

/-- A sender side told to wind down (R39, R137). -/
def windDownSender (cause : Cause) (p : Part) : Part :=
  match p.sender.state with
  | .calling | .standby | .awaitReceipt => senderIdle p
  | .start | .phasing | .image => if cause = .lineLost then senderIdle p else enterStop p
  | .stop | .idle => p

/-! ## Offers -/

/-- Whether a side is active and has not finished. -/
def Side.works (s : Side) : Bool := s.active && !s.finished

/-- Every active side of the job that has not finished is told to wind down (R36). -/
def windDown (slot : JobSlot) (cause : Cause) (p : Part) : Part :=
  match p.jobAt slot with
  | none => p
  | some j =>
    let q := if j.scannerSide.works then windDownScanner p else p
    if j.senderSide.works then windDownSender cause q else q

/-- State code recorded for a cause (Table 3.3-1). -/
def Part.stateFor (p : Part) (c : Cause) (named : Named) : Nat :=
  match c.side, named with
  | 1, _ => p.scanner.state.code
  | 3, .scanner => p.scanner.state.code
  | _, _ => p.sender.state.code

/-- Line number recorded for a cause (Table 3.3-1). -/
def Part.lineFor (p : Part) (c : Cause) (named : Named) : Nat :=
  match c.side, named with
  | 1, _ => p.scanner.line
  | 3, .scanner => p.scanner.line
  | _, _ => p.sender.line

/-- An event is placed in the list, or dropped and counted when the list holds four (R37). -/
def Tally.place (t : Tally) (kind : Cause) (line : Nat) : Tally :=
  if t.events.length < 4 then { t with events := t.events ++ [⟨kind, line⟩] }
  else { t with dropped := satAdd 255 t.dropped 1 }

/-- An event placed for the job in a slot, with the line of the side it names. -/
def placeEvent (slot : JobSlot) (kind : Cause) (named : Named) (p : Part) : Part :=
  p.onTally slot fun t => t.place kind (p.lineFor kind named)

/-- A cause becomes a job's first cause, with its detail (R36, R38). -/
def Job.setFirst (j : Job) (c : Cause) (d : Detail) : Job :=
  { j with firstCause := some c,
           tally := if c.hasDetail then { j.tally with detail := some d } else j.tally }

/-- A drum fault that moves a LIVE sender to the line timer (R40). -/
def Cause.isDrumFault (c : Cause) : Bool :=
  match c with
  | .noLock | .drumStall | .speedFault => true
  | _ => false

/-- A sender state in which the tone is on (R118). -/
def SenderState.toneOn (s : SenderState) : Bool :=
  match s with
  | .start | .phasing | .image | .stop => true
  | _ => false

/-- R40, R80: at the offer of a drum fault, a LIVE sender in a tone-on state that takes its line events from
the drum is switched to the line timer. -/
def switchToTimer (j : Job) (c : Cause) (p : Part) : Part :=
  if c.isDrumFault ∧ j.spec.kind = .live ∧ p.sender.state.toneOn ∧ ¬ p.sender.onTimer then
    startTimer .live j.spec.speed (p.onSender fun d => { d with onTimer := true })
  else p

/-- A cause is offered to the job in a slot (R36, R37). -/
def offer (slot : JobSlot) (c : Cause) (named : Named) (p : Part) : Part :=
  match p.jobAt slot with
  | none => p
  | some j =>
    let q := switchToTimer j c p
    if c.isEvent || j.firstCause.isSome then placeEvent slot c named q
    else
      windDown slot c
        (q.onJob slot fun j => j.setFirst c ⟨c.side, q.stateFor c named, q.lineFor c named⟩)

/-- A cause offered to the job that holds the sender, whose own detail is the sender's (Table 3.3-1). -/
def offerSender (c : Cause) (p : Part) : Part :=
  match p.senderSlot with
  | some slot => offer slot c .sender p
  | none => p

end Sys2Proof.Machine
end

