-- ==== Sys2Proof/Machine/Jobs.lean ====
section
/-! DEFINITION. The end of a job (R41, R148), the close of an event, prefetch (R29, R30), the dispatch gate and
the start of a job's sides (R33 to R35, R85, R121). -/

namespace Sys2Proof.Machine

/-! ## The end of a job -/

/-- A side that is not active has nothing left to do; an active one must have finished. -/
def Side.over (s : Side) : Bool := !s.active || s.finished

/-- Every active side of a job has finished (R41). -/
def Job.over (j : Job) : Bool := j.scannerSide.over && j.senderSide.over

/-- The job in a slot has come to its end. -/
def Part.jobOver (p : Part) (slot : JobSlot) : Bool :=
  match p.jobAt slot with
  | some j => j.over
  | none => false

/-- The result of a job (R41, R151): its first cause, or the natural completion of its kind. -/
def Job.result (j : Job) : Cause := j.firstCause.getD (if j.spec.kind = .store then .stored else .sent)

/-- The slip of a finished job (R148). -/
def Job.slip (j : Job) : Slip := ⟨j.spec, j.result, j.tally⟩

/-- A slip joins the queue at the tail (R155). -/
def queueSlip (s : Slip) (p : Part) : Part := p.onDisp fun d => { d with slipQueue := d.slipQueue ++ [s] }

/-- The context in a slot is discarded and its resources are free. -/
def dropJob (slot : JobSlot) (p : Part) : Part :=
  match slot with
  | .scan => p.onDisp fun d => { d with scanJob := none }
  | .relay => p.onDisp fun d => { d with relayJob := none }

/-- HOLD_SPIN with a completion code places the carry-over at the job's speed (R41). -/
def placeCarry (j : Job) (p : Part) : Part :=
  if j.spec.holdSpin ∧ j.result.isCompletion then
    p.onDemands fun d => { d with carry := some ⟨j.spec.speed, false⟩ }
  else p

/-- An event of R33 at which the gate is checked: nothing holds the pending record back from it any longer. -/
def checkGate (p : Part) : Part :=
  p.onDisp fun d => { d with pendingJob := d.pendingJob.map fun r => { r with held := false } }

/-- A job whose active sides have all finished becomes a slip (R41), and the gate is checked (R33). -/
def finishJob (slot : JobSlot) (p : Part) : Part :=
  match p.jobAt slot with
  | none => p
  | some j => if j.over then placeCarry j (checkGate (dropJob slot (queueSlip j.slip p))) else p

/-- Every job that is over is finished; of two at one event, either may be first (R41, log 32). -/
def finishJobs (p : Part) : Part :=
  if p.jobOver .scan && p.jobOver .relay then
    let q := { p with choices := p.choices + 1 }
    if Config.relayFinishesFirst p.choices then finishJob .scan (finishJob .relay q)
    else finishJob .relay (finishJob .scan q)
  else finishJob .relay (finishJob .scan p)

/-! ## The dispatch gate -/

/-- A record that starts no side: bad, or marked to cancel (R34). -/
def PendingJob.idleRecord (r : PendingJob) : Bool := r.toCancel || r.badField.isSome

/-- The resources a kind holds are free (R32). -/
def Part.resourcesFree (p : Part) (k : JobKind) : Bool :=
  match k with
  | .live => p.disp.scanJob.isNone && p.disp.relayJob.isNone
  | .store => p.disp.scanJob.isNone
  | .relay => p.senderSlot.isNone
  | .other _ => true

/-- Slips queued plus jobs running are fewer than 4 (R33). -/
def Part.roomForSlip (p : Part) : Bool :=
  decide (p.disp.slipQueue.length + p.runningJobs < Config.slipQueueSize)

/-- The dispatch gate (R33). A record that starts no side needs no resources, but one that an ABORT_ALL has marked
while it waited is held until the next event at which the gate is checked (Table 3.4-2). -/
def Part.gatePasses (p : Part) (r : PendingJob) : Bool :=
  p.isOpen && p.roomForSlip &&
    (r.badField.isSome || (r.toCancel && !r.held) || p.resourcesFree r.spec.kind)

/-- A record whose job has a scanner side (R35): a valid LIVE or STORE, not marked to cancel. -/
def PendingJob.startsScanner (r : PendingJob) : Bool :=
  !r.idleRecord && decide (r.spec.kind = .live ∨ r.spec.kind = .store)

/-- The drum is driven: SPINUP, LOCKING or LOCKED. -/
def DrumState.driven (d : DrumState) : Bool :=
  match d with
  | .spinup | .locking | .locked => true
  | .stopped | .spindown => false

/-- The pending job passes the gate and places a demand on a driven drum at the event of its dispatch (R33, R35): the
servo finds the demand in force after that (R52). DESIGN CHOICE (log 52): at a STOPPED drum the demand is found with
nothing left to the dispatch, so that a drum that stalls at the event is started by the dispatch. -/
def Part.awaitsDispatch (p : Part) : Bool :=
  p.servo.drum.driven &&
    (match p.disp.pendingJob with
     | some r => r.startsScanner && p.gatePasses r
     | none => false)

/-! ## The close of an event -/

/-- The close of an event: jobs that are over finish (R41), the demand in force is found afresh (R52) unless the
dispatch of a job belongs to the event (R33), changed fields mark the block dirty (R160), and an idle port is granted
(R11). -/
def closeEvent (before after : Part) : Part :=
  let q := finishJobs after
  grantIdle (markChanges before (settleDemand q.awaitsDispatch before q))

/-! ## Prefetch -/

/-- The conditions of R29. -/
def Part.fetchReady (p : Part) : Bool :=
  p.isOpen && p.disp.pendingJob.isNone && p.disp.fetch.isNone &&
    decide (p.disp.jobProducer ≠ p.disp.jobConsumer)

/-- A fetch starts: the entry at the consumer index joins the guard set (R29). -/
def startFetch (p : Part) : Part :=
  (p.onDisp fun d => { d with fetch := some ⟨d.jobConsumer, []⟩ }).guardJob
    (some (p.settings.jobEntry p.disp.jobConsumer))

/-- The record of a completed fetch is taken or discarded (R30, R31). -/
def endFetch (bytes : List Byte) (p : Part) : Part :=
  let q := (p.onDisp fun d => { d with fetch := none }).guardJob none
  if q.disp.jobProducer = q.disp.jobConsumer then q
  else
    (q.onDisp fun d =>
      { d with pendingJob := some (takenRecord p.settings bytes (decide (0 < d.cancelCount))),
               jobConsumer := ringNext p.settings.jobSize d.jobConsumer,
               cancelCount := d.cancelCount - 1 }).raise .jobTaken

/-- One byte of a fetch arrives (R29). -/
def fetchByte (b : Byte) (p : Part) : Part :=
  match p.disp.fetch with
  | none => p
  | some f =>
    let bytes := f.bytes ++ [b]
    if bytes.length < Config.jobBytes then p.onDisp fun d => { d with fetch := some { f with bytes := bytes } }
    else endFetch bytes p

/-! ## Dispatch -/

/-- The slip of a record that starts no side (R34, R154). -/
def PendingJob.slip (r : PendingJob) : Slip :=
  if r.toCancel then ⟨r.spec, .cancelled, Tally.zero⟩
  else ⟨r.spec, .badJob, { Tally.zero with detail := some ⟨Cause.badJob.side, r.badField.getD 0, 0⟩ }⟩

/-- A new context for a valid record (R35, 3.3). -/
def newJob (s : JobSpec) (scannerActive senderActive : Bool) : Job where
  spec := s
  scannerSide := ⟨scannerActive, false⟩
  senderSide := ⟨senderActive, false⟩
  firstCause := none
  tally := Tally.zero

/-- A context is put in its slot: the RELAY's, or that of the job that holds the scanner. -/
def placeJob (j : Job) (p : Part) : Part :=
  if j.spec.kind = .relay then p.onDisp fun d => { d with relayJob := some j }
  else p.onDisp fun d => { d with scanJob := some j }

/-- The slot of a record's job. -/
def JobSpec.slot (s : JobSpec) : JobSlot := if s.kind = .relay then .relay else .scan

/-- The sender takes a job whose LSN check passed (R121, R78). -/
def startSender (s : JobSpec) (p : Part) : Part :=
  let q := p.onSender fun d =>
    { d with line := 0, stall := 0, lossCount := 0, lossOffered := false, events := 0, stopCount := 0,
             onTimer := decide (s.kind = .relay), callMark := decide (s.kind = .live), timeout := 0,
             state := if s.waitReady then .calling else .standby }
  if s.kind = .relay then startTimer .relay s.speed q else q

/-- Entry to WARMUP: LAMP on, lamp settle count 0 (R88). -/
def enterWarmup (p : Part) : Part :=
  p.onScanner fun c => { c with state := .warmup, lamp := true, lampCount := 0 }

/-- Entry to HOMING (R87): a homing, found at once when HOME is active (R86). -/
def enterHoming (p : Part) : Part :=
  if p.pins.home then
    enterWarmup (p.onScanner fun c => { c with position := some 0, homing := false, reverse := false, homeCount := 0 })
  else startHoming (p.onScanner fun c => { c with state := .homing, position := none })

/-- The scanner takes a job (R85): references at their defaults, counts 0, indices of a LIVE, the demand on
the drum (R35, R65), and HOMING or WARMUP. -/
def startScanner (s : JobSpec) (p : Part) : Part :=
  let cfg := p.settings
  let q := (setReferences cfg.defaultWhite cfg.defaultBlack p).onScanner fun c =>
    { c with line := 0, stripRun := 0, stall := 0, armed := false, enteredScan := false, scanDone := false,
             stepsOwed := 0,
             senderIndex := if s.kind = .live then c.producer else c.senderIndex,
             releaseCopy := if s.kind = .live ∧ ¬ s.keep then c.producer else c.releaseCopy }
  let q := q.onServo fun v =>
    { v with demands := { v.demands with scanner := some ⟨s.speed, false⟩, carry := none },
             lockTimer := 0, lockRunning := true, noLockOffered := false }
  if q.pins.home ∧ q.scanner.position.isSome then enterWarmup q else enterHoming q

/-- A valid record starts (R35). With LSN inactive a LIVE or RELAY is offered NO_LINE with no side active;
the sender line number is 0 from the dispatch on (R118, log 21). -/
def startJob (s : JobSpec) (p : Part) : Part :=
  match s.kind with
  | .store => startScanner s (placeJob (newJob s true false) p)
  | .live =>
    if p.pins.lsn then startScanner s (startSender s (placeJob (newJob s true true) p))
    else offer .scan .noLine .sender ((placeJob (newJob s false false) p).onSender fun d => { d with line := 0 })
  | .relay =>
    if p.pins.lsn then startSender s (placeJob (newJob s false true) p)
    else offer .relay .noLine .sender ((placeJob (newJob s false false) p).onSender fun d => { d with line := 0 })
  | .other _ => p

/-- The pending job passes the gate (R33 to R35); nothing happens while it does not. -/
def dispatchPending (p : Part) : Part :=
  match p.disp.pendingJob with
  | none => p
  | some r =>
    if p.gatePasses r then
      let q := p.onDisp fun d => { d with pendingJob := none }
      if r.idleRecord then queueSlip r.slip q else startJob r.spec q
    else p

/-- JOB_FETCH_START (R29). -/
def execJobFetchStart (s : State) : Host.Outcome State Fault Refusal :=
  .next (s.onPart fun p => if p.fetchReady then closeEvent p (startFetch p) else p)

/-- DISPATCH (R33), with the levels of LSN and HOME that the start of the sides finds. -/
def execDispatch (pins : Pins) (s : State) : Host.Outcome State Fault Refusal :=
  .next (s.onPart fun p => closeEvent p (dispatchPending (p.setPins pins)))

end Sys2Proof.Machine
end

