-- ==== Sys2Proof/Machine/Commands.lean ====
section
/-! DEFINITION. What the snoop logic hands on (Table 1.3-1): the index writes (R28, R47, R48, R102, R129), the
commands (R26, R42 to R46) and the reads of status bytes 0, 1 and 31 (R163, R165). -/

namespace Sys2Proof.Machine

/-! ## Index writes -/

/-- Request byte +0 (R28). -/
def takeJobProducer (b : Byte) (p : Part) : Part :=
  let v := b.toNat % p.settings.jobSize
  if v = p.disp.jobProducer then p
  else
    p.onDisp fun d =>
      { d with jobProducer := v,
               cancelCount := min d.cancelCount (ringDist p.settings.jobSize d.jobConsumer v) }

/-- A rejected index write (R48). -/
def countRejection (p : Part) : Part := p.onDisp fun d => { d with rejections := satAdd 255 d.rejections 1 }

/-- Whether an index lies in ring order from the consumer up to the producer (R47, R102). -/
def indexAccepted (size consumer producer v : Nat) : Bool :=
  decide (ringDist size consumer v ≤ ringDist size consumer producer)

/-- Request byte +1 (R47). -/
def takeSlipConsumer (b : Byte) (p : Part) : Part :=
  let size := p.settings.slipSize
  let v := b.toNat % size
  if indexAccepted size p.disp.slipConsumer p.slips.producer v then p.onDisp fun d => { d with slipConsumer := v }
  else countRejection p

/-- Request byte +2 (R129). -/
def takeFeedProducer (b : Byte) (p : Part) : Part :=
  p.onSender fun d => { d with feedProducer := b.toNat % p.settings.feedSize }

/-- Request byte +3 (R102). -/
def takeScanRelease (b : Byte) (p : Part) : Part :=
  let size := p.settings.scanSize
  let v := b.toNat % size
  if indexAccepted size p.scanner.releaseCopy p.scanner.producer v then
    p.onScanner fun c => { c with releaseCopy := v }
  else countRejection p

/-! ## Commands -/

/-- The echo of every command taken (R42). -/
def echoCommand (code : Byte) (result : CommandResult) (p : Part) : Part :=
  (p.onDisp fun d =>
    { d with lastCode := code, lastResult := result, commandCount := d.commandCount + 1 }).raise .command

/-- Whether a running job stands in a slot. -/
def Part.runs (p : Part) (slot : JobSlot) : Bool := (p.jobAt slot).isSome

/-- ABORTED for a job whose first cause is empty, ABORT_LATE otherwise (R43). -/
def abortJob (slot : JobSlot) (named : Named) (p : Part) : Part :=
  match p.jobAt slot with
  | none => p
  | some j =>
    if j.firstCause.isNone then offer slot .aborted named p else offer slot .abortLate named p

/-- ABORT_SEND (R43). -/
def takeAbortSend (p : Part) : CommandResult × Part :=
  match p.senderSlot with
  | some slot => (.done, abortJob slot .sender p)
  | none => (.nothing, p)

/-- ABORT_SCAN (R43). -/
def takeAbortScan (p : Part) : CommandResult × Part :=
  if p.runs .scan then (.done, abortJob .scan .scanner p) else (.nothing, p)

/-- There is nothing for ABORT_ALL to act on (R44). -/
def Part.nothingToAbort (p : Part) : Bool :=
  !p.runs .scan && !p.runs .relay && p.disp.pendingJob.isNone && p.disp.fetch.isNone &&
    decide (p.disp.jobProducer = p.disp.jobConsumer)

/-- A record in the pending slot is marked to cancel (R44). The mark is no event at which R33 checks the gate, so a
record that waits goes on waiting for the next one (Table 3.4-2). -/
def Part.markCancel (p : Part) (r : PendingJob) : PendingJob :=
  { r with toCancel := true, held := r.held || !p.gatePasses r }

/-- ABORT_ALL (R44): both jobs, the pending slot, and the ring as it stands. -/
def takeAbortAll (p : Part) : CommandResult × Part :=
  if p.nothingToAbort then (.nothing, p)
  else
    let q := abortJob .relay .sender (abortJob .scan .scanner p)
    (.done, q.onDisp fun d =>
      { d with pendingJob := d.pendingJob.map p.markCancel,
               cancelCount := ringDist p.settings.jobSize d.jobConsumer d.jobProducer })

/-- SPIN (R45). -/
def takeSpin (p : Part) : CommandResult × Part :=
  if p.path.argument.toNat < 3 then
    (.done, p.onDemands fun d => { d with hold := some ⟨p.path.argument.toNat, false⟩ })
  else (.badArg, p)

/-- RELEASE_SPIN (R45). -/
def takeReleaseSpin (p : Part) : CommandResult × Part :=
  (.done, p.onDemands fun d => { d with carry := none, hold := none })

/-- CLEAR at the dispatcher (R46): contexts, fetch, pending slot, queue and indices. -/
def clearDispatcher (p : Part) : Part :=
  p.onDisp fun d =>
    { d with jobProducer := 0, jobConsumer := 0, slipConsumer := 0, fetch := none, pendingJob := none,
             cancelCount := 0, scanJob := none, relayJob := none, slipQueue := [], rejections := 0 }

/-- CLEAR at the drum servo (R69): no demand, D and I 0, run counts 0; a driven drum enters SPINDOWN. DESIGN CHOICE
(log 49): the target speed code keeps its value. -/
def clearServo (p : Part) : Part :=
  let q := setDuty 0 (clearRuns (p.onServo fun v =>
    { v with demands := Demands.none, integral := 0, noLockOffered := false, speedFaultMark := false }))
  let q := if q.servo.drum = .stopped then q else setDrum .spindown q
  q.onServo fun v => { v with lockRunning := false }

/-- CLEAR at the scanner (R46, R105): IDLE, LAMP off, no further pulse, position unknown, indices and counts 0. The
references in use keep their values. DESIGN CHOICE (log 40): a STEP pulse active at the CLEAR completes its tick,
where R105's "in the same way" as RESET would also bear cutting it short. -/
def clearScanner (p : Part) : Part :=
  p.onScanner fun c =>
    { Part.reset.scanner with white := c.white, black := c.black, step := c.step }

/-- CLEAR at the line sender (R46, R139): IDLE in silence with TXA at 128 at the event, phase, feed indices,
line number and counts 0 as after RESET. DESIGN CHOICE (log 51): the held level and the line clock, of which the
rules say nothing at a CLEAR, keep their values. -/
def clearSender (p : Part) : Part :=
  p.onSender fun d => { Part.reset.sender with held := d.held, onTimer := d.onTimer }

/-- CLEAR at the slip writer (R159): the write is abandoned, the index 0; the sequence is kept. -/
def clearSlips (p : Part) : Part := p.onSlips fun w => { w with producer := 0, write := none }

/-- CLEAR at the memory path (R8, R9): no guard hit, and only the status block guarded. -/
def clearPath (p : Part) : Part :=
  p.onPath fun m =>
    { m with guards := { GuardSet.empty with statusBlock := m.guards.statusBlock }, guardHits := 0,
             firstGuarded := 0 }

/-- CLEAR at the status writer (R167): no pending cause, forced update count 0. -/
def clearStatus (p : Part) : Part := (p.setCauses 0 0).onStatus fun t => { t with forced := 0 }

/-- CLEAR taken in OPEN (R46). -/
def clearOpen (p : Part) : Part :=
  clearStatus (clearPath (clearSlips (clearSender (stopTimer (clearScanner (clearServo (clearDispatcher p)))))))

/-- CLEAR taken in CLOSED: the device is OPEN (R26). -/
def openDevice (p : Part) : Part := p.onLoader fun l => { l with device := .opened }

/-- A command in OPEN (R42). -/
def openCommand (code : Byte) (p : Part) : CommandResult × Part :=
  match code.toNat with
  | 1 => (.done, clearOpen p)
  | 2 => takeAbortSend p
  | 3 => takeAbortScan p
  | 4 => takeAbortAll p
  | 5 => takeSpin p
  | 6 => takeReleaseSpin p
  | _ => (.unknown, p)

/-- A command in CLOSED: CLEAR opens, every other code is NOT_OPEN (R25, R26, R42). -/
def closedCommand (code : Byte) (p : Part) : CommandResult × Part :=
  if code = 1 then (.done, openDevice p) else (.notOpen, p)

/-- A command is taken and echoed at the event of its write (R42). -/
def takeCommand (code : Byte) (p : Part) : Part :=
  let r := if p.isOpen then openCommand code p else closedCommand code p
  echoCommand code r.1 r.2

/-! ## Snooped accesses -/

/-- A snooped write, in CLOSED or OPEN (R4, R5). -/
def snoopWrite (x : Nat) (b : Byte) (p : Part) : Part :=
  let base := p.settings.requestBase
  if x = base + 4 then p.onPath fun m => { m with argument := b }
  else if x = base + 5 then (if b = 0 then p else takeCommand b p)
  else if ¬ p.isOpen then p
  else if x = base then takeJobProducer b p
  else if x = base + 1 then takeSlipConsumer b p
  else if x = base + 2 then takeFeedProducer b p
  else if x = base + 3 then takeScanRelease b p
  else p

/-- A read of status byte 0 opens the window or restarts its count (R163). -/
def openWindow (p : Part) : Part := p.onStatus fun t => { t with window := some 0 }

/-- A read of status byte 31 shuts the window (R163). -/
def shutWindow (p : Part) : Part := p.onStatus fun t => { t with window := none }

/-- A read of status byte 1 clears the causes of the last byte 1 written that are not fresh (R165). -/
def readCauses (p : Part) : Part :=
  p.setCauses (p.status.pending &&& ~~~(p.status.lastByte1 &&& ~~~p.status.fresh)) p.status.fresh

/-- A snooped read, in CLOSED or OPEN (R6). -/
def snoopRead (x : Nat) (p : Part) : Part :=
  let base := p.settings.statusBase
  if x = base then openWindow p
  else if x = base + 1 then readCauses p
  else if x = base + 31 then shutWindow p
  else p

/-- A dropped write acts on the guard state and raises GUARD (R7). -/
def guardHit (x : Nat) (p : Part) : Part :=
  (p.onPath fun m =>
    { m with guardHits := satAdd 255 m.guardHits 1,
             firstGuarded := if m.guardHits = 0 then x else m.firstGuarded }).raise .guard

end Sys2Proof.Machine
end

