-- ==== Sys2Proof/Machine/Arbiter.lean ====
section
/-! DEFINITION. The RAM port arbiter and the host port (ch 01): the service of a host access, the completion of
every kind of transfer (R30, R95, R130, R132, R157, R162), the grant that follows it (R12), and the fifteen
rows of the table that are host accesses. -/

namespace Sys2Proof.Machine

def State.onRam (s : State) (f : Ram → Ram) : State := { s with ram := f s.ram }

/-- Closes an event that began in `before` (`closeEvent`). -/
def State.closeFrom (before after : State) : State := after.onPart (closeEvent before.part)

/-! ## Service of a host access -/

/-- A host read is served (R1, R6). -/
def serveRead (x : Nat) (s : State) : State :=
  let b := s.ram.read x
  s.onPart fun p =>
    let q := p.onPath fun m => { m with dataOut := b }
    if p.placed then snoopRead x q else q

/-- A write that the guard set drops (R2). -/
def Part.drops (p : Part) (x : Nat) : Bool := p.placed && p.path.guards.covers x

/-- A host write is served: dropped, or forwarded and snooped (R2, R4, R5, R7). -/
def serveWrite (x : Nat) (b : Byte) (s : State) : State :=
  if s.part.drops x then s.onPart (guardHit x)
  else (s.onRam fun m => m.write x b).onPart fun p => if p.placed then snoopWrite x b p else p

def serveAccess (a : HostAccess) (s : State) : State :=
  match a with
  | .read x => serveRead x s
  | .write x b => serveWrite x b s

/-- A host access is granted: it holds the port, and it is served at that moment (R1, R2, log 12). -/
def grantHost (a : HostAccess) (s : State) : State :=
  serveAccess a (s.onPart fun p => p.onPath fun m => { m with port := .host, waiting := none })

/-! ## Completion of a part transfer -/

/-- The header of a taken feed line, judged as it is read (R130). -/
def judgeHeader (h : LineInHand) (b : Byte) (p : Part) : Part :=
  if h.kind = .taken ∧ h.ring = .feed ∧ h.nextRead = 1 then
    let fresh := match p.disp.relayJob with
      | some j => j.tally.linesFresh
      | none => 0
    if word16 h.headerLow b + 1 = fresh then p else offer .relay .feedOrder .sender p
  else p

/-- The line in hand after byte `b` of it has been read (R130, R132). -/
def LineInHand.take (h : LineInHand) (b : Byte) : LineInHand :=
  let h' := { h with nextRead := h.nextRead + 1 }
  match h.nextRead with
  | 0 => { h' with headerLow := b }
  | 1 => { h' with headerLine := word16 h.headerLow b }
  | 2 => { h' with headerFlags := b,
                   last := decide (h.ring = .feed) && decide (h.kind = .taken) && b.getLsbD 1 }
  | _ => h'

/-- A pixel that arrives in time enters the FIFO; one whose slot has started is discarded (R133, log 22). -/
def LineInHand.keeps (h : LineInHand) : Bool :=
  decide (4 ≤ h.nextRead) && decide (h.nextSlot ≤ h.nextRead - 4)

/-- A byte of the line in hand arrives at the sender (R130, R132, R133). -/
def receiveByte (b : Byte) (p : Part) : Part :=
  match p.sender.hand with
  | none => p
  | some h =>
    judgeHeader h b (p.onSender fun d =>
      { d with hand := some (h.take b), fifo := if h.keeps then d.fifo ++ [b] else d.fifo })

/-- A scan write of the open line has completed (R95, R96). -/
def scanByteWritten (p : Part) : Part :=
  p.onScanner fun c => { c with openLine := c.openLine.map fun l => { l with written := l.written + 1 } }

/-- Status byte `i` has been written with `b` (R162). -/
def statusByteWritten (i : Nat) (b : Byte) (p : Part) : Part :=
  let q := if i = 1 then
      (p.setCauses p.status.pending 0).onStatus fun t => { t with lastByte1 := b }
    else p
  q.onStatus fun t => { t with write := if i + 1 < Config.statusBytes then some (i + 1) else none }

/-- The end of a slip write (R157): the slip leaves the queue, and the gate is checked (R33). -/
def slipWritten (p : Part) : Part :=
  (checkGate (((p.guardSlip none).onSlips fun w =>
    { w with producer := ringNext p.settings.slipSize w.producer, sequence := w.sequence + 1, write := none }).onDisp
      fun d => { d with slipQueue := d.slipQueue.tail })).raise .slip

/-- A byte of a slip has been written (R156, R157). -/
def slipByteWritten (p : Part) : Part :=
  match p.slips.write with
  | none => p
  | some w =>
    if w.written + 1 < Config.slipBytes then
      p.onSlips fun t => { t with write := some { w with written := w.written + 1 } }
    else slipWritten p

/-- A part transfer completes: its byte moves, and its owner goes on unless it has stopped the work. -/
def finishTransfer (t : Transfer) (s : State) : State :=
  match t.who with
  | .lineSender =>
    let b := s.ram.read t.offset
    s.onPart fun p => if t.withdrawn then p else receiveByte b p
  | .scanner =>
    (s.onRam fun m => m.write t.offset t.byte).onPart fun p => if t.withdrawn then p else scanByteWritten p
  | .statusWriter =>
    match s.part.status.write with
    | none => s
    | some i =>
      let b := statusByte s.part i
      (s.onRam fun m => m.write t.offset b).onPart (statusByteWritten i b)
  | .slipWriter => (s.onRam fun m => m.write t.offset t.byte).onPart slipByteWritten
  | .dispatcher =>
    let b := s.ram.read t.offset
    s.onPart (fetchByte b)

/-! ## The grant after a completion (R12) -/

/-- The urgent request that goes before a waiting host access: the line sender's, otherwise the scanner's. -/
def Part.urgentRequest (p : Part) : Option Requester :=
  if p.urgent .lineSender then some .lineSender
  else if p.urgent .scanner then some .scanner
  else none

/-- The port is granted anew (R12). -/
def regrant (s : State) : State :=
  match s.part.path.waiting with
  | none => s.onPart grantIdle
  | some w =>
    if 1 ≤ w.granted then grantHost w.access s
    else
      match s.part.urgentRequest with
      | some r =>
        s.onPart fun p => (p.grant r).onPath fun m => { m with waiting := some { w with granted := 1 } }
      | none => grantHost w.access s

/-- The port is free for the next grant. -/
def freePort (s : State) : State := s.onPart fun p => p.onPath fun m => { m with port := .idle }

/-- The transfer on the port completes and the port is granted anew (R12); WAIT is released at the completion
of a host access. Nothing happens on an idle port. DESIGN CHOICE (log 55): a held read of status byte 0 that this
completion grants is taken before a block write that the completion makes due, where R161 allows either order. -/
def completeTransfer (s : State) : State :=
  match s.part.path.port with
  | .idle => s
  | .host =>
    State.closeFrom s (regrant ((freePort s).onPart fun p => p.onPath fun m => { m with wait := false }))
  | .part t => State.closeFrom s (regrant (finishTransfer t (freePort s)))

/-- TRANSFER_COMPLETE (R12). -/
def execTransferComplete (s : State) : Host.Outcome State Fault Refusal := .next (completeTransfer s)

/-! ## The host port -/

/-- The host bus is kept by an access that waits or that holds the port (1.1, Remark after R2). -/
def State.busTaken (s : State) : Bool := s.part.path.waiting.isSome || decide (s.part.path.port = .host)

/-- Transfers complete until the host bus is free again (log 13): by R12 at most three. -/
def freeBus : Nat → State → State
  | 0, s => s
  | n + 1, s => if s.busTaken then freeBus n (completeTransfer s) else s

/-- A host access arrives: granted at once on an idle port, held on WAIT behind a part transfer (R11). -/
def arrive (a : HostAccess) (s : State) : State :=
  match s.part.path.port with
  | .part _ =>
    s.onPart fun p => p.onPath fun m => { m with waiting := some ⟨a, 0⟩, wait := true }
  | _ => State.closeFrom s (grantHost a s)

/-- One host access, begun once the bus is free (R11). -/
def hostAccess (a : HostAccess) (s : State) : State := arrive a (freeBus 3 s)

/-- A host read of a status byte, which has a place only while the placement is in force (R3, log 15). -/
def readStatus (i : Nat) (s : State) : State :=
  if s.part.placed then hostAccess (.read (ramOffset (s.part.settings.statusBase + i))) s else s

/-- A host write to a request byte, which has a place only while the placement is in force (R3, log 15). -/
def writeRequest (i : Nat) (b : Byte) (s : State) : State :=
  if s.part.placed then hostAccess (.write (ramOffset (s.part.settings.requestBase + i)) b) s else s

/-- HOST_READ (R1). -/
def execHostRead (offset : Offset) (s : State) : Host.Outcome State Fault Refusal :=
  .next (hostAccess (.read offset.toNat) s)

/-- HOST_WRITE (R2). -/
def execHostWrite (offset : Offset) (byte : Byte) (s : State) : Host.Outcome State Fault Refusal :=
  .next (hostAccess (.write offset.toNat byte) s)

/-- READ_STATUS_BYTE_0 (R163). -/
def execReadStatusByte0 (s : State) : Host.Outcome State Fault Refusal := .next (readStatus 0 s)

/-- READ_STATUS_BYTE_1 (R165). -/
def execReadStatusByte1 (s : State) : Host.Outcome State Fault Refusal := .next (readStatus 1 s)

/-- READ_STATUS_BYTE_31 (R163). -/
def execReadStatusByte31 (s : State) : Host.Outcome State Fault Refusal := .next (readStatus 31 s)

/-- JOB_PRODUCER_INDEX_WRITE (R28). -/
def execJobProducerIndexWrite (byte : Byte) (s : State) : Host.Outcome State Fault Refusal :=
  .next (writeRequest 0 byte s)

/-- SLIP_CONSUMER_INDEX_WRITE (R47). -/
def execSlipConsumerIndexWrite (byte : Byte) (s : State) : Host.Outcome State Fault Refusal :=
  .next (writeRequest 1 byte s)

/-- FEED_PRODUCER_INDEX_WRITE (R129). -/
def execFeedProducerIndexWrite (byte : Byte) (s : State) : Host.Outcome State Fault Refusal :=
  .next (writeRequest 2 byte s)

/-- SCAN_RELEASE_INDEX_WRITE (R102). -/
def execScanReleaseIndexWrite (byte : Byte) (s : State) : Host.Outcome State Fault Refusal :=
  .next (writeRequest 3 byte s)

/-- COMMAND_ARGUMENT_WRITE (R5). -/
def execCommandArgumentWrite (byte : Byte) (s : State) : Host.Outcome State Fault Refusal :=
  .next (writeRequest 4 byte s)

/-- CLEAR (R26, R46). -/
def execClear (s : State) : Host.Outcome State Fault Refusal := .next (writeRequest 5 0x01 s)

/-- ABORT_SEND (R43). -/
def execAbortSend (s : State) : Host.Outcome State Fault Refusal := .next (writeRequest 5 0x02 s)

/-- ABORT_SCAN (R43). -/
def execAbortScan (s : State) : Host.Outcome State Fault Refusal := .next (writeRequest 5 0x03 s)

/-- ABORT_ALL (R44). -/
def execAbortAll (s : State) : Host.Outcome State Fault Refusal := .next (writeRequest 5 0x04 s)

/-- SPIN (R45). -/
def execSpin (s : State) : Host.Outcome State Fault Refusal := .next (writeRequest 5 0x05 s)

/-- RELEASE_SPIN (R45). -/
def execReleaseSpin (s : State) : Host.Outcome State Fault Refusal := .next (writeRequest 5 0x06 s)

/-- UNKNOWN_COMMAND (R42). -/
def execUnknownCommand (code : Byte) (s : State) : Host.Outcome State Fault Refusal :=
  .next (writeRequest 5 code s)

end Sys2Proof.Machine
end

