-- ==== Sys2Proof/Machine/Detector.lean ====
section
/-! DEFINITION. The tone detector (ch 09): the capture of an RXC edge, the run and the tone heard (R140 to
R145), silence (R141), and the far-end event with what the sender makes of it (R136, R146). -/

namespace Sys2Proof.Machine

/-! ## Far-end event -/

/-- The set with a tone added (R146). -/
def ToneSet.add (t : ToneSet) (tone : Tone) : ToneSet :=
  match tone with
  | .ready => { t with ready := true }
  | .halt => { t with halt := true }
  | .receipt => { t with receipt := true }

/-- READY at the sender (R122, R136). DESIGN CHOICE (log 43): the ready timeout count stops at 0. -/
def senderReady (p : Part) : Part :=
  if p.sender.state = .calling then p.onSender fun d => { d with state := .standby, timeout := 0 }
  else offerSender .readyUnexpected p

/-- HALT at the sender (R122, R135, R136). -/
def senderHalt (p : Part) : Part :=
  match p.sender.state with
  | .calling | .standby | .start | .phasing | .image => offerSender .halted p
  | .awaitReceipt => senderIdle (offerSender .rejected p)
  | .stop | .idle => offerSender .haltLate p

/-- RECEIPT at the sender (R135, R136). -/
def senderReceipt (p : Part) : Part :=
  if p.sender.state = .awaitReceipt then senderIdle (offerSender .delivered p)
  else offerSender .receiptUnexpected p

/-- The tone heard goes to status byte 30, to the job that holds the sender, and to the sender (R146). -/
def farEndEvent (tone : Tone) (p : Part) : Part :=
  let q := p.onStatus fun t => { t with lastTone := some tone }
  match q.senderSlot with
  | none => q
  | some slot =>
    let r := q.onTally slot fun t => { t with tones := t.tones.add tone }
    match tone with
    | .ready => senderReady r
    | .halt => senderHalt r
    | .receipt => senderReceipt r

/-! ## Cycles -/

/-- The band of a cycle, or none for a cycle out of band (R142). -/
def Part.bandOf (p : Part) (cycle : Nat) : Option Tone :=
  let d := p.derived
  if d.readyBand.holds cycle then some .ready
  else if d.haltBand.holds cycle then some .halt
  else if d.receiptBand.holds cycle then some .receipt
  else none

/-- The run after a cycle (R143). -/
def changeRun (band : Option Tone) (d : Detector) : Detector :=
  match band with
  | none => { d with runTone := none, runCount := 0 }
  | some t =>
    if d.runTone = some t then { d with runCount := satAdd 255 d.runCount 1 }
    else { d with runTone := some t, runCount := 1 }

/-- A cycle in HEARD, judged against the tone heard (R145). -/
def judgeHeard (tone : Tone) (band : Option Tone) (d : Detector) : Detector :=
  if band = some tone then { d with loss := 0 }
  else if 4 ≤ d.loss + 1 then { d with loss := 4, state := .tracking }
  else { d with loss := d.loss + 1 }

/-- A cycle is judged (R143 to R145). -/
def judgeCycle (cycle : Nat) (p : Part) : Part :=
  let band := p.bandOf cycle
  let q := p.onDetector (changeRun band)
  match p.detector.state with
  | .silent => q
  | .heard tone => q.onDetector (judgeHeard tone band)
  | .tracking =>
    match q.detector.runTone with
    | none => q
    | some tone =>
      if p.settings.persistence ≤ q.detector.runCount then
        farEndEvent tone (q.onDetector fun d => { d with state := .heard tone, loss := 0 })
      else q

/-- Silence (R141). DESIGN CHOICE (log 44): the quiet time becomes 0 with the previous capture. -/
def takeSilence (p : Part) : Part :=
  p.onDetector fun _ =>
    { state := .silent, previous := none, quiet := 0, runTone := none, runCount := 0, loss := 0 }

/-- The cycle of a capture (R141). -/
def cycleOf (previous micro : Tick) : Nat := (micro - previous).toNat

/-- The capture becomes the previous capture (R140). -/
def holdCapture (micro : Tick) (p : Part) : Part :=
  p.onDetector fun d => { d with previous := some micro, quiet := 0 }

/-- A capture in SILENT (R140). -/
def firstEdge (micro : Tick) (p : Part) : Part :=
  p.onDetector fun _ =>
    { state := .tracking, previous := some micro, quiet := 0, runTone := none, runCount := 0, loss := 0 }

/-- A capture of RXC (R140, R141). A cycle above 8 000 means that the silence came first (log 7). -/
def takeEdge (micro : Tick) (p : Part) : Part :=
  match p.detector.previous with
  | none => firstEdge micro p
  | some previous =>
    if micro = previous then p
    else if Config.silenceMicros < cycleOf previous micro then firstEdge micro p
    else judgeCycle (cycleOf previous micro) (holdCapture micro p)

/-- RXC_CAPTURE (R140). -/
def execRxcCapture (micro : Tick) (s : State) : Host.Outcome State Fault Refusal :=
  .next (s.onPart fun p =>
    if p.resetActive then p
    else
      let q := p.onClock fun t => { t with micro := micro }
      closeEvent p (if p.placed then takeEdge micro q else q))

/-- DETECTOR_SILENCE (R141). -/
def execDetectorSilence (s : State) : Host.Outcome State Fault Refusal :=
  .next (s.onPart fun p => if p.detector.previous.isSome then takeSilence p else p)

end Sys2Proof.Machine
end

