-- ==== Sys2Proof/Machine/Loader.lean ====
section
/-! DEFINITION. The configuration loader at an image byte (R18 to R24). -/

namespace Sys2Proof.Machine

/-- The level of CFDO (R18): the bits of the instruction and the address in turn, most significant bit first,
low outside a read and once they have been sent (log 29). -/
def Part.cfdo (p : Part) : Bool :=
  let l := p.loader
  l.reading && (l.sent.getD (l.shifted / 8) 0).getMsbD (l.shifted % 8)

/-- The clock of the link stops at the end of a read, at low (R18, log 29). -/
def endRead (p : Part) : Part := p.onLoader fun l => { l with reading := false, cfck := false }

/-- The image is refused (R23): PASS_ONLY, FAULT lit, the read at its end. -/
def refuseImage (p : Part) : Part :=
  endRead (p.onLoader fun l => { l with device := .passOnly, fault := true })

/-- The image is accepted (R24): settings and derived values in force, CLOSED, the status block guarded, the
default references, START. -/
def acceptImage (p : Part) : Part :=
  let cfg := parseSettings p.loader.image
  let q := endRead (p.onLoader fun l => { l with accepted := some ⟨cfg, cfg.derive⟩, device := .closed })
  let q := q.onPath fun m => { m with guards := { m.guards with statusBlock := some cfg.statusRegion } }
  (q.onScanner fun c => { c with white := cfg.defaultWhite, black := cfg.defaultBlack }).raise .start

/-- The checks made together after the last sum byte (R20 to R22). -/
def Loader.imageGood (l : Loader) : Bool :=
  let cfg := parseSettings l.image
  decide (l.sum = storedSum l.image) && cfg.rangesGood && cfg.relationsGood

/-- The loader with one more byte; bytes 0 to 150 join the running sum (R20). Its last bit is sampled on a
rising edge of CFCK, after the 16 bits of instruction and address have been sent (R18). -/
def Loader.addByte (l : Loader) (b : Byte) : Loader :=
  { l with cfck := true, shifted := 16, image := l.image ++ [b],
           sum := if l.image.length < 151 then l.sum + b.zeroExtend 16 else l.sum }

/-- One image byte arrives (R18, R19). -/
def takeImageByte (b : Byte) (p : Part) : Part :=
  let q := p.onLoader fun l => l.addByte b
  if ¬ headerByteGood p.loader.image.length b then refuseImage q
  else if q.loader.image.length < Config.imageBytes then q
  else if q.loader.imageGood then acceptImage q
  else refuseImage q

/-- IMAGE_BYTE_RECEIVED (R18): a byte counts while a read is in progress. -/
def execImageByteReceived (byte : Byte) (s : State) : Host.Outcome State Fault Refusal :=
  .next (s.onPart fun p =>
    if p.loader.device = .loading ∧ p.loader.reading then closeEvent p (takeImageByte byte p) else p)

end Sys2Proof.Machine
end

