-- ==== Sys2Proof/Machine/Lines.lean ====
section
/-! DEFINITION. What a line event does at the scanner (R89 to R91, R96 to R101) and at the sender (R118 to R131,
R134), in the order of R101. -/

namespace Sys2Proof.Machine

/-! ## Scanner -/

/-- One more revolution in SCAN without a commit; at the stall limit SCAN_STALL is offered (R98). -/
def countScanStall (p : Part) : Part :=
  let q := p.onScanner fun c => { c with stall := satAdd 63 c.stall 1 }
  if p.settings.stallLimit ≤ q.scanner.stall then offer .scan .scanStall .scanner q else q

/-- The host is a consumer of the scan ring during this job (R100). -/
def JobSpec.hostConsumes (s : JobSpec) : Bool := decide (s.kind = .store) || (decide (s.kind = .live) && s.keep)

/-- A line is committed (R96, R97, R100): indices, counts, the carriage's steps, KEEP_USED and SCANLINE. -/
def commitLine (j : Job) (l : OpenLine) (p : Part) : Part :=
  let cfg := p.settings
  let steps := if p.scanner.line + 1 < j.spec.lines then cfg.stepsPerLine else 0
  let q := ((p.guardFill none).onScanner fun c =>
    { c with openLine := none, producer := ringNext cfg.scanSize c.producer, line := c.line + 1, stall := 0,
             releaseCopy := if j.spec.kind = .live ∧ ¬ j.spec.keep then ringNext cfg.scanSize c.producer
               else c.releaseCopy,
             position := c.position.map (· + steps), stepsOwed := c.stepsOwed + steps,
             stepTicks := 0 }).onTally .scan fun t =>
    { t with noiseHeld := satAdd 65535 t.noiseHeld l.noise,
             linesFresh := if j.spec.kind = .store then satAdd 4095 t.linesFresh 1 else t.linesFresh,
             keepUsed := t.keepUsed || (decide (j.spec.kind = .live) && j.spec.keep) }
  if j.spec.hostConsumes then q.raise .scanLine else q

/-- A line is damaged (R96, R98). -/
def damageLine (p : Part) : Part :=
  countScanStall
    ((((p.withdraw .scanner).guardFill none).onScanner fun c => { c with openLine := none, fifo := [] }).onTally
      .scan fun t => { t with damaged := satAdd 255 t.damaged 1 })

/-- The close of the open line at a line event (R96); nothing is closed in a skipped revolution. -/
def closeLine (whole : Bool) (j : Job) (p : Part) : Part :=
  match p.scanner.openLine with
  | none => p
  | some l =>
    if !l.damaged && whole && decide (l.written = p.settings.slotBytes) then commitLine j l p
    else damageLine p

/-- The scanner reports "scanner done" to a LIVE sender (R99). -/
def reportDone (j : Job) (p : Part) : Part :=
  if j.spec.kind = .live then p.onScanner fun c => { c with scanDone := true } else p

/-- The scanner leaves SCAN by itself (R99, R103, R104). -/
def endScan (j : Job) (p : Part) : Part := enterReturn (leaveScan (reportDone j p))

/-- The end-of-travel test (R99). -/
def travelEnded (p : Part) : Bool :=
  p.pins.travelEnd || decide (p.settings.positionLimit ≤ p.scanner.position.getD 0)

/-- The scan ends at the last line or at the end of travel (R99); otherwise it goes on. -/
def testScanEnd (j : Job) (p : Part) : Part :=
  if j.spec.lines ≤ p.scanner.line then endScan j p
  else if travelEnded p then endScan j (setShort .scan p)
  else p

/-- A STORE counts the line events it takes in SCAN (R91). -/
def countStoreEvent (j : Job) (p : Part) : Part :=
  if j.spec.kind = .store then p.onTally .scan fun t => { t with lineEvents := satAdd 65535 t.lineEvents 1 } else p

/-- Whether the producer slot may be claimed (R101): no active consumer is at the index after it. -/
def claimAllowed (j : Job) (p : Part) : Bool :=
  let next := ringNext p.settings.scanSize p.scanner.producer
  (decide (j.spec.kind ≠ .live) || decide (next ≠ p.scanner.senderIndex)) &&
    (!j.spec.hostConsumes || decide (next ≠ p.scanner.releaseCopy))

/-- A line opened at its claim (R91, R109). -/
def freshLine (slot : Nat) : OpenLine where
  slot := slot
  damaged := false
  noise := 0
  written := 0
  previous := none
  stripOk := false
  whiteSum := 0
  whiteCount := 0
  blackSum := 0
  blackCount := 0

/-- The claim of the producer slot, or a skipped revolution (R98, R101). -/
def claimSlot (j : Job) (p : Part) : Part :=
  if claimAllowed j p then
    (p.onScanner fun c => { c with openLine := some (freshLine c.producer) }).guardFill
      (some (p.settings.scanSlot p.scanner.producer))
  else countScanStall (p.onTally .scan fun t => { t with skipped := satAdd 255 t.skipped 1 })

/-- Entry to SCAN at its entry event (R89 to R91), up to the end-of-travel test. DESIGN CHOICE (log 50): the armed
mark falls here. -/
def enterScan (j : Job) (p : Part) : Part :=
  let q := countStoreEvent j (p.onScanner fun c => { c with state := .scan, armed := false, enteredScan := true })
  if travelEnded q then endScan j (setShort .scan q) else q

/-- Steps 1 and 2 of R91 in SCAN: the close, then the tests that end the scan. -/
def scannerClose (whole : Bool) (p : Part) : Part :=
  match p.disp.scanJob with
  | none => p
  | some j =>
    if p.scanner.state = .scan then
      let q := closeLine whole j (countStoreEvent j p)
      if q.scanner.state = .scan then testScanEnd j q else q
    else p

/-- Step 3 of R91: the claim, by a scanner in SCAN, be it since this event (R101). -/
def scannerClaim (p : Part) : Part :=
  match p.disp.scanJob with
  | none => p
  | some j => if p.scanner.state = .scan then claimSlot j p else p

/-- A STORE in WAIT_LOCK enters SCAN at a line event after the report of LOCKED (R89). -/
def storeEntry (locked : Bool) (p : Part) : Part :=
  match p.disp.scanJob with
  | none => p
  | some j =>
    if locked ∧ j.spec.kind = .store ∧ p.scanner.state = .waitLock then enterScan j p else p

/-! ## Sender -/

/-- A line counted in the job's line events (R124). -/
def countSenderLine (p : Part) : Part :=
  p.onSenderTally fun t => { t with lineEvents := satAdd 65535 t.lineEvents 1 }

/-- The call to the scanner at a drum line event (R90, R126): at line event s + p − 2 and at each later one while
the mark is set. DESIGN CHOICE (log 41): the call, with the scanner's entry and its end-of-travel test, comes
before the sender's own work for the event; the claim comes after it (R101). -/
def callScanner (n : Nat) (j : Job) (p : Part) : Part :=
  if j.spec.kind = .live ∧ ¬ p.sender.onTimer ∧ p.sender.callMark ∧
      j.spec.startRevs + j.spec.phasingRevs ≤ n + 2 ∧ p.scanner.armed then
    enterScan j (p.onSender fun d => { d with callMark := false })
  else p

/-- Entry to START (R123, R124): line event 0, white, and the LIVE sender demand. -/
def enterStart (j : Job) (p : Part) : Part :=
  let q := countSenderLine (p.onSender fun d =>
    { d with state := .start, events := 0, increment := p.derived.whiteIncrement })
  let q := if j.spec.kind = .live then q.onDemands fun d => { d with live := some ⟨j.spec.speed, false⟩ } else q
  callScanner 0 j q

/-- A line is eligible in the job's ring (R101, R129). `before` is the scan producer index as it stood
before this event's close: a line committed at this event is not eligible. -/
def eligible (before : Nat) (j : Job) (p : Part) : Bool :=
  if j.spec.kind = .relay then decide (p.sender.feedConsumer ≠ p.sender.feedProducer)
  else decide (p.scanner.senderIndex ≠ before)

/-- The ring a job's lines come from. -/
def JobSpec.ring (s : JobSpec) : LineRing := if s.kind = .relay then .feed else .scan

/-- The consumer index of a job's ring. -/
def Part.consumerIndex (p : Part) : LineRing → Nat
  | .scan => p.scanner.senderIndex
  | .feed => p.sender.feedConsumer

def Settings.ringSize (s : Settings) : LineRing → Nat
  | .scan => s.scanSize
  | .feed => s.feedSize

/-- A line in hand at the start of its reading (R132). DESIGN CHOICE (log 54): the header fields are 0 until a header
is read, so that a repeated line and a white one keep them at 0. -/
def newHand (ring : LineRing) (slot : Nat) (kind : HandKind) (nextRead : Nat) : LineInHand where
  ring := ring
  slot := slot
  kind := kind
  nextRead := nextRead
  nextSlot := 0
  headerLow := 0
  headerLine := 0
  headerFlags := 0
  last := false

/-- Step 2 of R127: the oldest eligible line is taken. -/
def takeLine (j : Job) (p : Part) : Part :=
  let ring := j.spec.ring
  let slot := p.consumerIndex ring
  let q := p.onSenderTally fun t => { t with linesFresh := satAdd 4095 t.linesFresh 1 }
  (q.onSender fun d =>
    { d with hand := some (newHand ring slot .taken 0), fifo := [], held := 255, stall := 0,
             line := j.tally.linesFresh }).guardSending (some (p.settings.lineSlot ring slot))

/-- The sender's stall count at its limit (R126, R130). -/
def judgeStall (j : Job) (p : Part) : Part :=
  if p.settings.stallLimit ≤ p.sender.stall then
    if j.spec.kind = .relay then offer .relay .feedStall .sender p
    else if p.sender.callMark then offer .scan .scanStall .sender p
    else p
  else p

/-- Step 3 of R127: the previous line is repeated, or a white line is sent when none has been taken. DESIGN CHOICE
(log 54): a white line, which is read from no slot, holds the slot before the consumer index and next byte offset 0.
-/
def repeatLine (j : Job) (p : Part) : Part :=
  let ring := j.spec.ring
  let slot := ringPrev (p.settings.ringSize ring) (p.consumerIndex ring)
  let q := (p.onSenderTally fun t => { t with linesRepeated := satAdd 65535 t.linesRepeated 1 }).onSender fun d =>
    { d with stall := satAdd 63 d.stall 1, fifo := [], held := 255 }
  let q :=
    if j.tally.linesFresh = 0 then q.onSender fun d => { d with hand := some (newHand ring slot .white 0) }
    else (q.onSender fun d => { d with hand := some (newHand ring slot .repeated 4) }).guardSending
      (some (p.settings.lineSlot ring slot))
  judgeStall j q

/-- The LIVE condition that ends IMAGE (R128). -/
def liveImageEnd (before : Nat) (j : Job) (p : Part) : Bool :=
  decide (j.spec.kind = .live) && !eligible before j p && p.scanner.scanDone &&
    decide (p.scanner.senderIndex = p.scanner.producer)

/-- The end of IMAGE (R131): SHORT for a RELAY that ends on LAST below lines requested, then STOP, whose
first line this event begins. -/
def endImage (wasLast : Bool) (j : Job) (p : Part) : Part :=
  let q := if wasLast ∧ j.spec.kind = .relay ∧ j.tally.linesFresh < j.spec.lines then setShort .relay p else p
  countSenderLine (enterStop q)

/-- An image line event after its release (R127, R128, R131). -/
def imageLine (before : Nat) (wasLast : Bool) (j : Job) (p : Part) : Part :=
  if j.spec.lines ≤ j.tally.linesFresh ∨ wasLast ∨ liveImageEnd before j p then endImage wasLast j p
  else if eligible before j p then takeLine j (countSenderLine p)
  else repeatLine j (countSenderLine p)

/-- A phasing line begins (R125). -/
def phasingLine (p : Part) : Part :=
  countSenderLine ((p.onSender fun d => { d with state := .phasing }).onSenderTally fun t =>
    { t with phasingSent := satAdd 31 t.phasingSent 1 })

/-- The end of STOP (R134): IDLE with nothing offered after a wind-down, AWAIT_RECEIPT under WAIT_RECEIPT,
SENT and IDLE otherwise. -/
def endStop (j : Job) (p : Part) : Part :=
  if j.firstCause.isSome then senderIdle p
  else if j.spec.waitReceipt then
    (p.onSender fun d => { d with state := .awaitReceipt, timeout := 0, increment := 0 }).onDemands fun d =>
      { d with live := none }
  else senderIdle (offerSender .sent p)

/-- A line event in STOP (R134). -/
def stopLine (j : Job) (p : Part) : Part :=
  let q := p.onSender fun d => { d with stopCount := satAdd 15 d.stopCount 1 }
  if p.settings.stopRevs ≤ q.sender.stopCount then endStop j q else countSenderLine q

/-- The work of a tone-on state at line event `n` (R124, R125, R127, R134). -/
def toneLine (before : Nat) (wasLast : Bool) (n : Nat) (j : Job) (p : Part) : Part :=
  match p.sender.state with
  | .start => if j.spec.startRevs ≤ n then phasingLine p else countSenderLine p
  | .phasing =>
    if j.spec.startRevs + j.spec.phasingRevs ≤ n then
      imageLine before false j (p.onSender fun d => { d with state := .image })
    else phasingLine p
  | .image => imageLine before wasLast j p
  | .stop => stopLine j p
  | _ => p

/-- The sender counts the event, calls the scanner, and does the work of its state (R124, R126). -/
def countedLine (before : Nat) (wasLast : Bool) (j : Job) (p : Part) : Part :=
  let n := p.sender.events + 1
  toneLine before wasLast n j (callScanner n j (p.onSender fun d => { d with events := n }))

/-- The sender's work at a line event of its clock, its line already released (R119, R123). -/
def senderLine (before : Nat) (wasLast : Bool) (p : Part) : Part :=
  match p.senderJob with
  | none => p
  | some j =>
    match p.sender.state with
    | .standby =>
      if j.spec.kind = .relay ∨ p.scanner.armed then enterStart j p else p
    | .start | .phasing | .image | .stop => countedLine before wasLast j p
    | _ => p

/-- Step 1 of R127 at an image line event. -/
def releaseAtLine (p : Part) : Part := if p.sender.state = .image then releaseHand p else p

/-- The line in hand is a taken line marked LAST (R130). -/
def Part.handLast (p : Part) : Bool :=
  match p.sender.hand with
  | some h => decide (h.kind = .taken) && h.last
  | none => false

/-- A drum line event at the scanner and at a sender on the drum, in the order of R101: release, close, take,
claim. `lockedBefore` is whether LOCKED was reported before this capture (R89). -/
def drumLineEvent (whole lockedBefore : Bool) (p : Part) : Part :=
  let onDrum := !p.sender.onTimer
  let before := p.scanner.producer
  let q := scannerClose whole (if onDrum then releaseAtLine p else p)
  let q := if onDrum ∧ q.sender.state = p.sender.state then senderLine before p.handLast q else q
  scannerClaim (storeEntry lockedBefore q)

/-- A line timer line event at the sender it serves (R78, R119). -/
def timerLineEvent (p : Part) : Part :=
  if p.sender.onTimer then senderLine p.scanner.producer p.handLast (releaseAtLine p) else p

end Sys2Proof.Machine
end

