-- ==== Sys2Proof/Machine/Drum.lean ====
section
/-! DEFINITION. INDEX capture and period (R50, R51), the angle clock at a drum line event (R71 to R76), the work
of the drum states and the PI loop (R54 to R56, R61 to R64), the PWM period (R62), the lock timeout (R65), and
the stall (R58, R66, R67). -/

namespace Sys2Proof.Machine

/-! ## The loop -/

/-- One PI step (R61): the clamped error, the integral and the duty. -/
structure LoopStep where
  error : Int
  integral : Int
  duty : Nat
  deriving DecidableEq, Repr

/-- The PI computation at a period (R61); division by a positive number is floor. -/
def piStep (cfg : Settings) (target : Nat) (integral : Int) (period : Nat) : LoopStep :=
  let e := clampInt (-8191) 8191 ((period : Int) - (Config.nominalPeriod target : Int))
  let i := clampInt (-32768) 32767 (integral + e)
  let d := (cfg.baseDuty target : Int) + (cfg.kp : Int) * e / 64 + (cfg.ki : Int) * i / 1024
  ⟨e, i, (clampInt 0 1024 d).toNat⟩

/-- The loop runs: I and D take their new values, D as next duty (R61, R62). -/
def runLoop (l : LoopStep) (p : Part) : Part :=
  setDuty l.duty (p.onServo fun v => { v with integral := l.integral })

/-- A period in SPINUP (R54). -/
def spinupPeriod (period : Nat) (p : Part) : Part :=
  if period ≤ spinupLimit p.servo.target then
    if 2 ≤ p.servo.goodCount + 1 then enterLocking (p.onServo fun v => { v with goodCount := 2 })
    else p.onServo fun v => { v with goodCount := v.goodCount + 1 }
  else p.onServo fun v => { v with goodCount := 0 }

/-- A period in LOCKING (R55). At the entry to LOCKED, DRUM is raised when the demand in force is the carry-over
or the SPIN hold (R60), as the servo last found it: R52 finds it afresh once, after all of an event. -/
def lockingPeriod (found : Demands) (period : Nat) (p : Part) : Part :=
  let l := piStep p.settings p.servo.target p.servo.integral period
  let q := runLoop l p
  if l.error.natAbs ≤ p.settings.lockWindow then
    if 3 ≤ p.servo.lockCount + 1 then
      let r := setDrum .locked (q.onServo fun v => { v with lockCount := 3, outsideCount := 0, faultCount := 0 })
      if found.ofHold then r.raise .drum else r
    else q.onServo fun v => { v with lockCount := v.lockCount + 1 }
  else q.onServo fun v => { v with lockCount := 0 }

/-- Worst error and speed excursions of the drum's job (R63). -/
def recordError (found : Demands) (err : Nat) (p : Part) : Part :=
  if p.jobDemands found then
    p.onTally .scan fun t =>
      { t with worstError := max t.worstError err,
               excursions := if p.settings.excursion < err then satAdd 255 t.excursions 1 else t.excursions }
  else p

/-- The fault limit of a period in LOCKED (R56, R64). A run of four is offered once for a drum's job. -/
def judgeFault (found : Demands) (err : Nat) (p : Part) : Part :=
  if p.settings.faultLimit < err then
    if 4 ≤ p.servo.faultCount + 1 then
      let q := p.onServo fun v => { v with faultCount := 0 }
      if p.jobDemands found ∧ ¬ p.servo.speedFaultMark then
        offer .scan .speedFault .scanner (q.onServo fun v => { v with speedFaultMark := true })
      else q
    else p.onServo fun v => { v with faultCount := v.faultCount + 1 }
  else p.onServo fun v => { v with faultCount := 0 }

/-- The lock window of a period in LOCKED (R56). -/
def judgeWindow (err : Nat) (p : Part) : Part :=
  if p.settings.lockWindow < err then
    if 8 ≤ p.servo.outsideCount + 1 then
      setDrum .locking (p.onServo fun v => { v with outsideCount := 8, lockCount := 0 })
    else p.onServo fun v => { v with outsideCount := v.outsideCount + 1 }
  else p.onServo fun v => { v with outsideCount := 0 }

/-- A period in LOCKED (R56, R63, R64). -/
def lockedPeriod (found : Demands) (period : Nat) (p : Part) : Part :=
  let l := piStep p.settings p.servo.target p.servo.integral period
  let err := l.error.natAbs
  judgeWindow err (judgeFault found err (recordError found err (runLoop l p)))

/-- A period taken through the work of the drum state (R50, R54 to R58), under the demands as the servo last found
the one in force (R52). -/
def servoPeriod (found : Demands) (period : Nat) (p : Part) : Part :=
  match p.servo.drum with
  | .spinup => spinupPeriod period p
  | .locking => lockingPeriod found period p
  | .locked => lockedPeriod found period p
  | .stopped | .spindown => p

/-! ## INDEX capture -/

/-- The tick counter stands at `tick`. A value below the one it held means that it has passed 65535, which
adds to the wrap count while a reference is held (R51, log 6). -/
def advanceTick (tick : Tick) (p : Part) : Part :=
  let q := if tick.toNat < p.clock.tick.toNat ∧ p.servo.reference.isSome then
      p.onServo fun v => { v with wraps := satAdd 255 v.wraps 1 }
    else p
  q.onClock fun t => { t with tick := tick }

/-- The period of a capture (R51): none for the reference. -/
def capturePeriod (v : Servo) (tick : Tick) : Option Nat :=
  match v.reference with
  | some r => some (tick.toNat + 65536 * v.wraps - r.toNat)
  | none => none

/-- Slot offsets of a schedule (R71). -/
def startOffset (period slots k : Nat) : Nat := period * k / slots
def centreOffset (period slots k : Nat) : Nat := period * (2 * k + 1) / (2 * slots)

/-- Whether the revolution that ends is whole (R73): slot S + P has started, or its start falls no later than
this capture. DESIGN CHOICE (log 48): a revolution that held no schedule has no slot S + P, and is reported cut. -/
def lineWhole (p : Part) (period : Nat) : Bool :=
  let gapSlot := p.settings.strip + p.settings.image
  match p.angle.schedule with
  | none => false
  | some old =>
    decide (gapSlot < p.angle.nextStart) ||
      decide (startOffset old p.derived.slots gapSlot ≤ max p.angle.elapsed period)

/-- The next schedule, or none after a reference capture (R71, R76). DESIGN CHOICE (log 42): a reference capture,
too, sets the elapsed count and the slot numbers to 0, of which R76 says nothing. -/
def buildSchedule (period : Option Nat) (p : Part) : Part :=
  p.onAngle fun _ => { schedule := period, elapsed := 0, nextStart := 0, nextCentre := 0 }

/-- Conversions of the old schedule in flight are discarded (R74). -/
def discardSet (p : Part) : Part := p.onScanner fun c => { c with convSet := none }

/-- The servo takes the capture: reference, wrap count, period, quiet count (R50, R51). -/
def takeCapture (tick : Tick) (period : Option Nat) (p : Part) : Part :=
  p.onServo fun v =>
    { v with reference := some tick, wraps := 0, quiet := 0,
             period := match period with
               | some d => d
               | none => v.period }

/-- The work of a capture at the servo, then or before the line event at scanner and sender. -/
def captureWork (servoFirst whole : Bool) (period : Option Nat) (p : Part) : Part :=
  let servo := fun q : Part => match period with
    | some d => servoPeriod p.servo.demands d q
    | none => q
  let locked := decide (p.servo.drum = .locked)
  if servoFirst then
    let q := servo p
    drumLineEvent whole (locked && decide (q.servo.drum = .locked)) q
  else servo (drumLineEvent whole locked p)

/-- A capture acted on (R50): the old revolution is settled, the next schedule built, the line event and the
period handed on. -/
def capture (tick : Tick) (servoFirst : Bool) (p : Part) : Part :=
  let period := capturePeriod p.servo tick
  let whole := lineWhole p (period.getD 0)
  captureWork servoFirst whole period (discardSet (buildSchedule period (takeCapture tick period p)))

/-- Whether an INDEX edge is captured (R50): in CLOSED or OPEN, the drum not STOPPED, and no capture already
in this tick. -/
def captures (p : Part) (tick : Tick) : Bool :=
  p.placed && decide (p.servo.drum ≠ .stopped) &&
    !(decide (p.servo.reference = some tick) && decide (p.servo.wraps = 0))

/-- INDEX_CAPTURE (R50). -/
def execIndexCapture (tick : Tick) (pins : Pins) (servoFirst : Bool) (s : State) :
    Host.Outcome State Fault Refusal :=
  .next (s.onPart fun p =>
    if p.resetActive then p.setPins pins
    else
      let q := advanceTick tick (p.setPins pins)
      closeEvent p (if captures q tick then capture tick servoFirst q else q))

/-- The tick counter passes from 65535 to 0 (R51, R70). -/
def wrapTick (p : Part) : Part :=
  let q := if p.servo.reference.isSome then p.onServo fun v => { v with wraps := satAdd 255 v.wraps 1 } else p
  q.onClock fun t => { t with tick := 0 }

/-- TICK_COUNTER_WRAP (R51, R70). While RESET is active the counter holds 0. -/
def execTickCounterWrap (s : State) : Host.Outcome State Fault Refusal :=
  .next (s.onPart fun p => if p.resetActive then p else wrapTick p)

/-- A PWM period starts: the next duty becomes the active duty (R62). -/
def startPwm (p : Part) : Part :=
  (p.onClock fun t => { t with pwmCount := 0 }).onServo fun v => { v with activeDuty := v.nextDuty }

/-- PWM_PERIOD_START (R62). -/
def execPwmPeriodStart (s : State) : Host.Outcome State Fault Refusal :=
  .next (s.onPart fun p => if p.resetActive then p else startPwm p)

/-- The level of MDRV (R62): high for the first D counts of a PWM period, D the active duty. -/
def Part.mdrv (p : Part) : Bool := decide (p.clock.pwmCount < p.servo.activeDuty)

/-! ## Lock timeout and stall -/

/-- The lock timer has reached its count (R65). -/
def Part.lockDue (p : Part) : Bool := p.servo.lockRunning && decide (p.derived.lockCount ≤ p.servo.lockTimer)

/-- NO_LOCK is offered to the job of the scanner-side demand, and the timer stops (R65). -/
def takeLockTimeout (p : Part) : Part :=
  offer .scan .noLock .scanner (p.onServo fun v => { v with lockRunning := false, noLockOffered := true })

/-- LOCK_TIMEOUT (R65). -/
def execLockTimeout (s : State) : Host.Outcome State Fault Refusal :=
  .next (s.onPart fun p => if p.lockDue then closeEvent p (takeLockTimeout p) else p)

/-- The quiet count has reached the stall time, in any drum state but STOPPED (R66). -/
def Part.stallDue (p : Part) : Bool :=
  decide (p.servo.drum ≠ .stopped) && decide (p.derived.stallCount ≤ p.servo.quiet)

/-- A stall (R67). DESIGN CHOICE (log 49): the target speed code keeps its value. -/
def takeStall (p : Part) : Part :=
  let hadJob := p.drumHasJob
  let q := setDrum .stopped (setDuty 0 (clearRuns p))
  let q := q.onServo fun v =>
    { v with lockRunning := false,
             demands := { scanner := setAside v.demands.scanner, live := setAside v.demands.live,
                          carry := setAside v.demands.carry, hold := none } }
  let q := q.raise .drum
  if hadJob then offer .scan .drumStall .scanner q else q

/-- The quiet count is complete: a stall in a driven state, STOPPED from SPINDOWN (R58, R66). -/
def takeStallTime (p : Part) : Part :=
  if p.servo.drum = .spindown then setDrum .stopped p else takeStall p

/-- STALL_TIME_EXPIRY (R66). -/
def execStallTimeExpiry (s : State) : Host.Outcome State Fault Refusal :=
  .next (s.onPart fun p => if p.stallDue then closeEvent p (takeStallTime p) else p)

end Sys2Proof.Machine
end

