-- ==== Sys2Proof/Machine/Slots.lean ====
section
/-! DEFINITION. The slots of a line: what the sender does at a slot start (R72, R79, R120, R133), what the
scanner does at a slot centre and at the end of a conversion set (R92 to R95, R109, R110), and the line
timer's events (R78, R79). -/

namespace Sys2Proof.Machine

/-! ## The sender at a slot start -/

/-- An increment is put in force (R113, R114). -/
def setIncrement (inc : Nat) (p : Part) : Part := p.onSender fun d => { d with increment := inc }

/-- The fixed white and fixed black inputs (R113). -/
def fixedWhite (p : Part) : Part := setIncrement p.derived.whiteIncrement p
def fixedBlack (p : Part) : Part := setIncrement p.derived.blackIncrement p

/-- The increment of a level (R112). -/
def Part.incrementOf (p : Part) (level : Nat) : Nat :=
  levelIncrement p.settings.blackTone p.settings.whiteTone level

/-- The level of a pixel through the curve of the sender's job (R111, R113). -/
def Part.pixelLevel (p : Part) (b : Byte) : Nat :=
  match p.senderJob with
  | some j => curveLevel (p.settings.curves.getD j.spec.curve []) b.toNat
  | none => 0

/-- Number of the pixel at the head of the sender FIFO: the pixels read less those still in it (R133). -/
def headPixel (h : LineInHand) (fifo : List Byte) : Nat := h.nextRead - 4 - fifo.length

/-- Pixel `b` is at the head of the FIFO at the start of image slot `j` (R133). -/
def sendPixel (j : Nat) (h : LineInHand) (b : Byte) (rest : List Byte) (p : Part) : Part :=
  let level := p.pixelLevel b
  p.onSender fun d =>
    { d with hand := some { h with nextSlot := j + 1 }, fifo := rest, held := level,
             increment := p.incrementOf level }

/-- Image slot `j` is an underrun (R133): the held level, or 255 at the first image slot. -/
def sendHeld (j : Nat) (h : LineInHand) (rest : List Byte) (p : Part) : Part :=
  let level := if j = 0 then 255 else p.sender.held
  (p.onSender fun d =>
    { d with hand := some { h with nextSlot := j + 1 }, fifo := rest, held := level,
             increment := p.incrementOf level }).onSenderTally fun t =>
    { t with underruns := satAdd 65535 t.underruns 1 }

/-- The start of image slot `j` of a line read from a ring (R133): pixels numbered below `j` are discarded. -/
def imageSlotStart (j : Nat) (h : LineInHand) (p : Part) : Part :=
  let first := headPixel h p.sender.fifo
  match p.sender.fifo.drop (j - first) with
  | b :: rest => if first ≤ j then sendPixel j h b rest p else sendHeld j h (b :: rest) p
  | [] => sendHeld j h [] p

/-- The start of slot `k` in IMAGE (R120). -/
def imageStateSlot (k : Nat) (p : Part) : Part :=
  let strip := p.settings.strip
  if k < strip ∨ strip + p.settings.image ≤ k then fixedWhite p
  else
    match p.sender.hand with
    | some h => if h.kind = .white then fixedWhite p else imageSlotStart (k - strip) h p
    | none => fixedWhite p

/-- The start of slot `k` at the sender (R120). -/
def senderSlotStart (k : Nat) (p : Part) : Part :=
  match p.sender.state with
  | .start => fixedWhite p
  | .phasing => if k < p.settings.pulseWidth then fixedBlack p else fixedWhite p
  | .image => imageStateSlot k p
  | .stop => fixedBlack p
  | .idle | .calling | .standby | .awaitReceipt => p

/-! ## The scanner at the end of a conversion set -/

/-- Changes the open line, if there is one. -/
def Part.onLine (p : Part) (f : OpenLine → OpenLine) : Part :=
  p.onScanner fun c => { c with openLine := c.openLine.map f }

/-- A line is damaged while it is open: its strip sums and counts are dropped with it (R109). -/
def OpenLine.damage (l : OpenLine) : OpenLine :=
  { l with damaged := true, whiteSum := 0, whiteCount := 0, blackSum := 0, blackCount := 0 }

/-- A byte met a full scan FIFO (R95): the line is damaged, the FIFO emptied and the request withdrawn. -/
def overflowLine (p : Part) : Part :=
  ((p.withdraw .scanner).onLine OpenLine.damage).onScanner fun c => { c with fifo := [], convSet := none }

/-- A byte of the open line arrives at the scan FIFO (R95). -/
def pushByte (p : Part) (b : Byte) : Part :=
  match p.scanner.openLine with
  | none => p
  | some l =>
    if l.damaged then p
    else if p.scanner.fifo.length < Config.fifoSize then p.onScanner fun c => { c with fifo := c.fifo ++ [b] }
    else overflowLine p

/-- The open line after a clean candidate slot of mean `m` (R109). -/
def OpenLine.addStrip (l : OpenLine) (strip k m : Nat) : OpenLine :=
  if whiteCandidate strip k then { l with whiteSum := l.whiteSum + m, whiteCount := l.whiteCount + 1 }
  else if blackCandidate strip k then { l with blackSum := l.blackSum + m, blackCount := l.blackCount + 1 }
  else l

/-- A strip fault (R93): both counts rise, and at the limit LAMP_FAULT is offered. -/
def stripFault (p : Part) : Part :=
  let q := (p.onScanner fun c => { c with stripRun := satAdd 15 c.stripRun 1 }).onTally .scan fun t =>
    { t with stripFaults := satAdd 255 t.stripFaults 1 }
  if p.settings.stripFaultLimit ≤ q.scanner.stripRun then offer .scan .lampFault .scanner q else q

/-- The references after the last strip slot (R93, R110). -/
def judgeStrip (l : OpenLine) (p : Part) : Part :=
  match newReferences p.settings.strip p.settings.minContrast l with
  | some (w, b) =>
    ((setReferences w b p).onLine fun l => { l with stripOk := true }).onScanner fun c => { c with stripRun := 0 }
  | none => stripFault p

/-- The set of a strip slot ends (R93, R109). -/
def endStripSet (l : OpenLine) (k : Nat) (xs : List Nat) (p : Part) : Part :=
  let l' := if slotNoisy p.settings.noiseLimit xs then l else l.addStrip p.settings.strip k (slotMean xs)
  let q := p.onLine fun _ => l'
  if k + 1 = p.settings.strip then judgeStrip l' q else q

/-- The set of an image slot ends (R94, R95): its pixel, and after the last one the header, enter the FIFO. -/
def endImageSet (l : OpenLine) (k : Nat) (xs : List Nat) (p : Part) : Part :=
  let cfg := p.settings
  let n := imagePixel cfg.noiseLimit p.scanner.white p.scanner.black l.previous xs
  let l' := { l with previous := some n, noise := if slotNoisy cfg.noiseLimit xs then l.noise + 1 else l.noise }
  let q := pushByte (p.onLine fun _ => l') (BitVec.ofNat 8 n)
  if k + 1 = cfg.strip + cfg.image then
    (headerBytes p.scanner.line l'.noise l'.stripOk).foldl pushByte q
  else q

/-- The conversion set in progress ends with the conversions that have completed (R92). -/
def endSet (p : Part) : Part :=
  match p.scanner.convSet with
  | none => p
  | some c =>
    let q := p.onScanner fun c => { c with convSet := none }
    match q.scanner.openLine with
    | none => q
    | some l =>
      if l.damaged then q
      else if c.slot < p.settings.strip then endStripSet l c.slot c.values q
      else endImageSet l c.slot c.values q

/-- Whether the job that holds the scanner has NO_STRIP in force (R92). -/
def Part.noStrip (p : Part) : Bool :=
  match p.disp.scanJob with
  | some j => j.spec.noStrip
  | none => false

/-- A conversion set starts at the centre of slot `k` (R92): a line is open and not damaged, and the slot is
an image slot, or a strip slot without NO_STRIP. -/
def startsSet (k : Nat) (p : Part) : Bool :=
  match p.scanner.openLine with
  | none => false
  | some l =>
    !l.damaged && decide (k < p.settings.strip + p.settings.image) &&
      !(p.noStrip && decide (k < p.settings.strip))

/-- The centre of slot `k` at the scanner (R92). -/
def scannerCentre (k : Nat) (p : Part) : Part :=
  let q := endSet p
  if startsSet k q then
    (q.onScanner fun c => { c with convSet := some ⟨k, []⟩ }).onClock fun t => { t with beatInConversion := 0 }
  else q

/-! ## The rows -/

/-- The schedule still has a slot start, or a slot centre, to hand on (R72). -/
def Part.startHeld (p : Part) : Option Nat :=
  match p.angle.schedule with
  | some period =>
    if p.angle.nextStart < p.derived.slots then some (startOffset period p.derived.slots p.angle.nextStart) else none
  | none => none
def Part.centreHeld (p : Part) : Option Nat :=
  match p.angle.schedule with
  | some period =>
    if p.angle.nextCentre < p.derived.slots then some (centreOffset period p.derived.slots p.angle.nextCentre)
    else none
  | none => none

/-- The next slot start is handed on, at its offset (R72): to a sender whose line clock is the drum (R119). -/
def handStart (offset : Nat) (p : Part) : Part :=
  let k := p.angle.nextStart
  let q := p.onAngle fun a => { a with elapsed := max a.elapsed offset, nextStart := k + 1 }
  if q.sender.onTimer then q else senderSlotStart k q

/-- The next slot centre is handed on, at its offset (R72). -/
def handCentre (offset : Nat) (p : Part) : Part :=
  let k := p.angle.nextCentre
  scannerCentre k (p.onAngle fun a => { a with elapsed := max a.elapsed offset, nextCentre := k + 1 })

/-- SLOT_START (R72). -/
def execSlotStart (s : State) : Host.Outcome State Fault Refusal :=
  .next (s.onPart fun p =>
    match p.startHeld with
    | some offset => closeEvent p (handStart offset p)
    | none => p)

/-- SLOT_CENTRE (R72, R92). -/
def execSlotCentre (s : State) : Host.Outcome State Fault Refusal :=
  .next (s.onPart fun p =>
    match p.centreHeld with
    | some offset => closeEvent p (handCentre offset p)
    | none => p)

/-- One conversion of PHC has completed (R92). -/
def takeConversion (value : Sample) (p : Part) : Part :=
  match p.scanner.convSet with
  | none => p
  | some c =>
    let c' := { c with values := c.values ++ [value.toNat] }
    let q := (p.onScanner fun t => { t with convSet := some c' }).onClock fun t => { t with beatInConversion := 0 }
    if p.settings.conversions ≤ c'.values.length then endSet q else q

/-- CONVERSION_COMPLETE (R92). -/
def execConversionComplete (value : Sample) (s : State) : Host.Outcome State Fault Refusal :=
  .next (s.onPart fun p => closeEvent p (takeConversion value { p with phc := value }))

/-- The line timer expires (R78, R79): count 0, a schedule from slot 0, and the line event. -/
def expireTimer (p : Part) : Part :=
  timerLineEvent (p.onTimer fun t => { t with count := 0, begun := true, nextStart := 0 })

/-- LINE_TIMER_EXPIRY (R78). -/
def execLineTimerExpiry (s : State) : Host.Outcome State Fault Refusal :=
  .next (s.onPart fun p => if p.timer.running.isSome then closeEvent p (expireTimer p) else p)

/-- The line timer's schedule still has a slot start to hand on, at this count (R79). -/
def Part.timerStartHeld (p : Part) : Option Nat :=
  if p.timer.running.isSome ∧ p.timer.begun ∧ p.timer.nextStart < p.derived.slots then
    some (startOffset p.timer.modulo p.derived.slots p.timer.nextStart)
  else none

/-- The line timer hands on its next slot start to the sender it serves (R79, R119). -/
def handTimerStart (offset : Nat) (p : Part) : Part :=
  let k := p.timer.nextStart
  let q := p.onTimer fun t => { t with count := max t.count offset, nextStart := k + 1 }
  if q.sender.onTimer then senderSlotStart k q else q

/-- LINE_TIMER_SLOT_START (R79). -/
def execLineTimerSlotStart (s : State) : Host.Outcome State Fault Refusal :=
  .next (s.onPart fun p =>
    match p.timerStartHeld with
    | some offset => closeEvent p (handTimerStart offset p)
    | none => p)

end Sys2Proof.Machine
end

