-- ==== Sys2Proof/Machine/Timers.lean ====
section
/-! DEFINITION. The job timer (R82, R83) with the counts and the timeouts kept on it (R86, R88, R122, R135,
R137), the carriage (R86, R97), the tone sample (R114 to R116), and the starts and counts of the slip writer
and the status writer (R156, R161 to R163). -/

namespace Sys2Proof.Machine

/-! ## Job timer -/

/-- The read of the image begins at the first expiry after RESET (R18): CFCS active, CFCK low, 03H and 00H to
send. -/
def startRead (p : Part) : Part :=
  if p.loader.device = .loading ∧ ¬ p.loader.reading then
    p.onLoader fun l =>
      { l with reading := true, cfck := false, sent := [0x03, 0x00], shifted := 0, image := [], sum := 0 }
  else p

/-- The quiet count and the lock timer add the expiry (R65, R66). -/
def countServo (p : Part) : Part :=
  p.onServo fun v =>
    { v with quiet := if v.drum = .stopped then v.quiet else v.quiet + 1,
             lockTimer := if v.lockRunning then v.lockTimer + 1 else v.lockTimer }

/-- The home timeout and the lamp settle count add the expiry (R86, R88). -/
def countScanner (p : Part) : Part :=
  p.onScanner fun c =>
    { c with homeCount := if c.homing then c.homeCount + 1 else c.homeCount,
             lampCount := if c.state = .warmup then c.lampCount + 1 else c.lampCount }

/-- Whether a sender state counts a timeout (R122, R135). -/
def SenderState.waits (s : SenderState) : Bool :=
  match s with
  | .calling | .awaitReceipt => true
  | _ => false

/-- The sender's timeout and its line loss count add the expiry (R122, R135, R137). -/
def countSender (p : Part) : Part :=
  p.onSender fun d =>
    { d with timeout := if d.state.waits then d.timeout + 1 else d.timeout,
             lossCount := if d.state = .idle then d.lossCount
               else if p.pins.lsn then 0 else satAdd 10 d.lossCount 1,
             lossOffered := d.lossOffered && !p.pins.lsn }

/-- One expiry at every block that counts on it (R82). -/
def expireJobTimer (p : Part) : Part :=
  countSender (countScanner (countServo (startRead (p.onClock fun t => { t with jobTicks := 0 }))))

/-- JOB_TIMER_EXPIRY (R82), with the level of LSN that it finds. While RESET is active the count holds 0. -/
def execJobTimerExpiry (pins : Pins) (s : State) : Host.Outcome State Fault Refusal :=
  .next (s.onPart fun p =>
    let q := p.setPins pins
    if q.resetActive then q else expireJobTimer q)

/-! ## Timeouts whose count the job timer keeps (log 4) -/

/-- The home timeout is complete (R86). -/
def Part.homeDue (p : Part) : Bool := p.scanner.homing && decide (p.derived.homeCount ≤ p.scanner.homeCount)

/-- A homing ends failed, in HOMING (R87) or in RETURN (R104). -/
def failHoming (p : Part) : Part :=
  if p.scanner.state = .homing then
    let q := offer .scan .homeFault .scanner p
    if q.scanner.state = .homing then enterReturn (q.onScanner fun c => { c with position := none }) else q
  else
    scannerIdle ((setNotHome (offer .scan .homeLate .scanner p)).onScanner fun c => { c with position := none })

/-- HOME_TIMEOUT (R86). -/
def execHomeTimeout (s : State) : Host.Outcome State Fault Refusal :=
  .next (s.onPart fun p => if p.homeDue then closeEvent p (failHoming p) else p)

/-- The lamp has settled (R88). -/
def Part.lampDue (p : Part) : Bool :=
  decide (p.scanner.state = .warmup) && decide (p.derived.lampCount ≤ p.scanner.lampCount)

/-- Entry to WAIT_LOCK (R88): a LIVE arms when the drum is LOCKED (R90). -/
def enterWaitLock (p : Part) : Part := armIfWaiting (p.onScanner fun c => { c with state := .waitLock })

/-- LAMP_SETTLE_EXPIRY (R88). -/
def execLampSettleExpiry (s : State) : Host.Outcome State Fault Refusal :=
  .next (s.onPart fun p => if p.lampDue then closeEvent p (enterWaitLock p) else p)

/-- The ready timeout is complete (R122). -/
def Part.readyDue (p : Part) : Bool :=
  decide (p.sender.state = .calling) && decide (p.derived.readyCount ≤ p.sender.timeout)

/-- READY_TIMEOUT (R122). -/
def execReadyTimeout (s : State) : Host.Outcome State Fault Refusal :=
  .next (s.onPart fun p => if p.readyDue then closeEvent p (senderIdle (offerSender .noAnswer p)) else p)

/-- The receipt timeout is complete (R135). -/
def Part.receiptDue (p : Part) : Bool :=
  decide (p.sender.state = .awaitReceipt) && decide (p.derived.receiptCount ≤ p.sender.timeout)

/-- RECEIPT_TIMEOUT (R135). -/
def execReceiptTimeout (s : State) : Host.Outcome State Fault Refusal :=
  .next (s.onPart fun p =>
    if p.receiptDue then closeEvent p (senderIdle (offerSender .sentUnconfirmed p)) else p)

/-- Ten expiries in a row have found LSN inactive, and this run has offered nothing (R137). -/
def Part.lossDue (p : Part) : Bool :=
  decide (p.sender.state ≠ .idle) && decide (10 ≤ p.sender.lossCount) && !p.sender.lossOffered

/-- LINE_LOST (R137). -/
def execLineLost (s : State) : Host.Outcome State Fault Refusal :=
  .next (s.onPart fun p =>
    if p.lossDue then closeEvent p (offerSender .lineLost (p.onSender fun d => { d with lossOffered := true }))
    else p)

/-! ## Carriage -/

/-- HOME becomes active during a homing (R86, R87, R104). -/
def findHome (p : Part) : Part :=
  if p.scanner.state = .homing then
    enterWarmup (p.onScanner fun c => { c with position := some 0, homing := false, reverse := false })
  else returnFound p

/-- HOME_ACTIVE (R86). HOME is acted on in CLOSED and OPEN only (R105). -/
def execHomeActive (s : State) : Host.Outcome State Fault Refusal :=
  .next (s.onPart fun p =>
    let q := p.setPins { p.pins with home := true }
    if q.placed && q.scanner.homing then closeEvent p (findHome q) else q)

/-- One forward STEP pulse (R97). R84 marks the block dirty at every STEP pulse of a change of position, though
R97 makes the whole change at the commit; the model follows both (log 39). -/
def stepForward (p : Part) : Part :=
  (p.onScanner fun c => { c with step := true, stepsOwed := c.stepsOwed - 1, stepTicks := 0 }).onStatus fun t =>
    { t with dirty := true }

/-- FORWARD_STEP (R97), with the level of END from now on. -/
def execForwardStep (pins : Pins) (s : State) : Host.Outcome State Fault Refusal :=
  .next (s.onPart fun p =>
    let q := p.setPins pins
    if 0 < q.scanner.stepsOwed then stepForward q else q)

/-- One STEP pulse of a homing (R86): in RETURN a known position falls by 1, down to 0. A pulse that changes no
position marks nothing (R160, log 39). -/
def stepHoming (p : Part) : Part :=
  p.onScanner fun c =>
    { c with step := true, stepTicks := 0,
             position := if c.state = .back then c.position.map (· - 1) else c.position }

/-- HOMING_STEP (R86), with the levels of the switches from now on. -/
def execHomingStep (pins : Pins) (s : State) : Host.Outcome State Fault Refusal :=
  .next (s.onPart fun p =>
    let q := p.setPins pins
    if q.scanner.homing then markChanges p (stepHoming q) else q)

/-! ## Tone sample -/

/-- The gain of the sender's job (R115). -/
def Part.gain (p : Part) : Nat :=
  match p.senderJob with
  | some j => j.spec.gain
  | none => 0

/-- One tone sample (R115, R116). -/
def sampleTone (p : Part) : Part :=
  if p.sender.state.toneOn then
    let phase := nextPhase p.sender.phase p.sender.increment
    p.onSender fun d => { d with phase := phase, txa := dacCode phase p.gain }
  else p.onSender fun d => { d with txa := 128 }

/-- TONE_SAMPLE (R115, R116). -/
def execToneSample (s : State) : Host.Outcome State Fault Refusal :=
  .next (s.onPart fun p =>
    if p.resetActive then p else sampleTone (p.onClock fun t => { t with beatInSample := 0 }))

/-! ## Slip writer -/

/-- The conditions of R156. -/
def Part.slipReady (p : Part) : Bool :=
  p.isOpen && !p.disp.slipQueue.isEmpty && p.slips.write.isNone &&
    decide (ringNext p.settings.slipSize p.slips.producer ≠ p.disp.slipConsumer)

/-- A slip write starts (R156). -/
def startSlip (p : Part) : Part :=
  (p.onSlips fun w => { w with write := some ⟨w.producer, 0⟩ }).guardSlip
    (some (p.settings.slipEntry p.slips.producer))

/-- SLIP_WRITE_START (R156). -/
def execSlipWriteStart (s : State) : Host.Outcome State Fault Refusal :=
  .next (s.onPart fun p => if p.slipReady then closeEvent p (startSlip p) else p)

/-! ## Status writer -/

/-- Ticks of the status spacing (R161). -/
def Part.spacingTicks (p : Part) : Nat := p.settings.statusSpacing * 125

/-- The spacing count has passed (R161). -/
def Part.spacingPassed (p : Part) : Bool :=
  match p.status.spacing with
  | none => true
  | some n => decide (p.spacingTicks ≤ n)

/-- The conditions of R161. -/
def Part.statusReady (p : Part) : Bool :=
  p.placed && p.status.dirty && p.status.write.isNone && p.status.window.isNone &&
    (p.status.urgent || p.spacingPassed)

/-- A block write starts (R162). -/
def startStatus (p : Part) : Part :=
  p.onStatus fun t =>
    { t with sequence := t.sequence + 1, dirty := false, urgent := false, spacing := some 0, write := some 0 }

/-- STATUS_WRITE_START (R161, R162). -/
def execStatusWriteStart (s : State) : Host.Outcome State Fault Refusal :=
  .next (s.onPart fun p => if p.statusReady then closeEvent p (startStatus p) else p)

/-- STATUS_SPACING_PASSED (R161). -/
def execStatusSpacingPassed (s : State) : Host.Outcome State Fault Refusal :=
  .next (s.onPart fun p => p.onStatus fun t => { t with spacing := none })

/-- The read window expires (R163). -/
def expireWindow (p : Part) : Part :=
  p.onStatus fun t => { t with window := none, forced := satAdd 255 t.forced 1 }

/-- READ_WINDOW_EXPIRY (R163). -/
def execReadWindowExpiry (s : State) : Host.Outcome State Fault Refusal :=
  .next (s.onPart fun p => if p.status.window.isSome then markChanges p (expireWindow p) else p)

end Sys2Proof.Machine
end

