-- ==== Sys2Proof/Machine/Beat.lean ====
section
/-! DEFINITION. What the part does on an empty queue (log 1): the command that has fallen due, and otherwise
one beat of half a microsecond, the count of the PWM counter (00_scope.md Table 1-5). -/

namespace Sys2Proof.Machine

/-! ## What has fallen due -/

/-- Starts and completions, which wait for no clock (log 3, log 11). A start falls due at the event that meets its
conditions, so every start goes before the next completion (R29, R33, R156, R161). -/
def Part.dueStarts (p : Part) : List (Bool × Instr) :=
  [(p.statusReady, .statusWriteStart),
   (p.slipReady, .slipWriteStart),
   (p.fetchReady, .jobFetchStart),
   (match p.disp.pendingJob with
    | some r => p.gatePasses r
    | none => false, .dispatch p.pins),
   (p.placed && p.scanner.homing && p.pins.home, .homeActive),
   (decide (p.path.port ≠ .idle), .transferComplete)]

/-- Timeouts whose count is complete (R83, log 4). -/
def Part.dueTimeouts (p : Part) : List (Bool × Instr) :=
  [(p.lockDue, .lockTimeout),
   (p.stallDue, .stallTimeExpiry),
   (p.homeDue, .homeTimeout),
   (p.lampDue, .lampSettleExpiry),
   (p.readyDue, .readyTimeout),
   (p.receiptDue, .receiptTimeout),
   (p.lossDue, .lineLost)]

/-- Whether an offset has been reached by a count. -/
def reached (offset : Option Nat) (count : Nat) : Bool :=
  match offset with
  | some n => decide (n ≤ count)
  | none => false

/-- The events of the angle clock and of the line timer at their counts, in slot order (R72, R78, R79). -/
def Part.dueSlots (p : Part) : List (Bool × Instr) :=
  [(p.timer.running.isSome && decide (p.timer.modulo ≤ p.timer.count), .lineTimerExpiry),
   (reached p.timerStartHeld p.timer.count, .lineTimerSlotStart),
   (reached p.startHeld p.angle.elapsed && decide (p.angle.nextStart ≤ p.angle.nextCentre), .slotStart),
   (reached p.centreHeld p.angle.elapsed, .slotCentre)]

/-- Ticks between STEP pulses of a homing (R86). -/
def Part.homingTicks (p : Part) : Nat := p.settings.returnStep * 64

/-- The other events at their counts. -/
def Part.dueCounts (p : Part) : List (Bool × Instr) :=
  [(decide (Config.jobTimerTicks ≤ p.clock.jobTicks), .jobTimerExpiry p.pins),
   (p.status.spacing.isSome && p.spacingPassed, .statusSpacingPassed),
   (match p.status.window with
    | some n => decide (p.settings.windowExpiry ≤ n)
    | none => false, .readWindowExpiry),
   (p.scanner.convSet.isSome && decide (Config.beatsPerConversion ≤ p.clock.beatInConversion),
    .conversionComplete p.phc),
   (decide (0 < p.scanner.stepsOwed) && decide (Config.forwardStepTicks ≤ p.scanner.stepTicks),
    .forwardStep p.pins),
   (p.scanner.homing && decide (p.homingTicks ≤ p.scanner.stepTicks), .homingStep p.pins),
   (p.detector.previous.isSome && decide (Config.silenceMicros ≤ p.detector.quiet), .detectorSilence),
   (decide (Config.beatsPerSample ≤ p.clock.beatInSample), .toneSample)]

/-- The first command of a list that is due. -/
def firstDue : List (Bool × Instr) → Option Instr
  | [] => none
  | (due, c) :: rest => if due then some c else firstDue rest

/-- The command that has fallen due, if one has; none while RESET is active. -/
def Part.nextDue (p : Part) : Option Instr :=
  if p.resetActive then none
  else firstDue (p.dueStarts ++ p.dueTimeouts ++ p.dueSlots ++ p.dueCounts)

/-! ## One beat -/

/-- The counts of ticks that the blocks keep, and the end of a STEP pulse (R70, R72, R78, R86, R97, R161, R163).
DESIGN CHOICE (log 53): the scanner's step spacing count runs on at every tick; R86 and R97 name its starts, and no
rule its stops. -/
def countTick (p : Part) : Part :=
  let q := p.onClock fun t => { t with jobTicks := t.jobTicks + 1 }
  let q := q.onAngle fun a => if a.schedule.isSome then { a with elapsed := a.elapsed + 1 } else a
  let q := q.onTimer fun t => if t.running.isSome then { t with count := t.count + 1 } else t
  let q := q.onScanner fun c => { c with stepTicks := c.stepTicks + 1, step := false }
  q.onStatus fun t => { t with spacing := t.spacing.map (· + 1), window := t.window.map (· + 1) }

/-- The tick counter moves on (R51, R70). -/
def moveTick (p : Part) : Part :=
  if p.clock.tick = 65535#16 then wrapTick p else p.onClock fun t => { t with tick := t.tick + 1 }

/-- One tick (R70). -/
def passTick (p : Part) : Part := moveTick (countTick p)

/-- One microsecond of the detector's counter and quiet time (R140, R141). -/
def passMicro (p : Part) : Part :=
  (p.onClock fun t => { t with micro := t.micro + 1 }).onDetector fun d =>
    if d.previous.isSome then { d with quiet := d.quiet + 1 } else d

/-- The PWM counter moves on: from 1023 it returns to 0, where a PWM period starts (R62). -/
def movePwm (p : Part) : Part :=
  if Config.pwmCounts ≤ p.clock.pwmCount + 1 then startPwm p
  else p.onClock fun t => { t with pwmCount := t.pwmCount + 1 }

/-- Half a period of CFCK while a read is in progress (R18): the bit on CFDO changes after a falling edge. -/
def clockLink (p : Part) : Part :=
  if p.loader.reading then
    p.onLoader fun l =>
      { l with cfck := !l.cfck, shifted := if l.cfck then min 16 (l.shifted + 1) else l.shifted }
  else p

/-- One beat of half a microsecond. -/
def passBeat (p : Part) : Part :=
  let q := (clockLink (movePwm p)).onClock fun t =>
    { t with beatInSample := t.beatInSample + 1,
             beatInConversion := if p.scanner.convSet.isSome then t.beatInConversion + 1 else 0,
             beatInTick := (t.beatInTick + 1) % Config.beatsPerTick }
  let q := if q.clock.beatInTick % 2 = 0 then passMicro q else q
  if q.clock.beatInTick = 0 then passTick q else q

/-- An idle beat: the clock stands while RESET is active. -/
def idleBeat (p : Part) : Part := if p.resetActive then p else passBeat p

end Sys2Proof.Machine
end

