-- ==== Sys2Proof/Machine/Reset.lean ====
section
/-! DEFINITION. RESET and its release (R16, R27, R49, R68, R70, R77, R81, R82, R105, R139, R140, R147, R159,
R167). -/

namespace Sys2Proof.Machine

/-- Every block at its RESET values. The input levels, the counter of the model's choices and the byte last put
on D0-D7 are none of the part's and stay. -/
def resetPart (p : Part) : Part :=
  { Part.reset with pins := p.pins, phc := p.phc, choices := p.choices,
                    path := { Part.reset.path with dataOut := p.path.dataOut } }

/-- The memory path at RESET (R16): a part transfer ends without completing, an access that waits is granted at
once and served as in LOADING, and a host transfer that holds the port keeps it (log 20). -/
def resetMachine (s : State) : State :=
  let r := s.onPart resetPart
  match s.part.path.waiting, s.part.path.port with
  | some w, _ => grantHost w.access r
  | none, .host => r.onPart fun p => p.onPath fun m => { m with port := .host }
  | none, _ => r

/-- RESET. RAM is not written, but by the access it lets through. -/
def execReset (s : State) : Host.Outcome State Fault Refusal := .next (resetMachine s)

/-- RESET goes inactive (R70, R82, R140): the counters start from 0. -/
def releaseReset (p : Part) : Part :=
  { p with resetActive := false, clock := Part.reset.clock }

/-- RESET_RELEASE. A release with RESET inactive changes nothing. -/
def execResetRelease (s : State) : Host.Outcome State Fault Refusal :=
  .next (s.onPart fun p => if p.resetActive then releaseReset p else p)

end Sys2Proof.Machine
end

