-- ==== Sys2Proof/Machine/Dispatch.lean ====
section
/-! DEFINITION. One arm per command of spec/opcode_table.json. -/

namespace Sys2Proof.Machine

def exec (i : Instr) (s : State) : Host.Outcome State Fault Refusal :=
  match i with
  | .reset => Sys2Proof.Machine.execReset s
  | .hostRead offset => Sys2Proof.Machine.execHostRead offset s
  | .hostWrite offset byte => Sys2Proof.Machine.execHostWrite offset byte s
  | .readStatusByte0 => Sys2Proof.Machine.execReadStatusByte0 s
  | .readStatusByte1 => Sys2Proof.Machine.execReadStatusByte1 s
  | .readStatusByte31 => Sys2Proof.Machine.execReadStatusByte31 s
  | .jobProducerIndexWrite byte => Sys2Proof.Machine.execJobProducerIndexWrite byte s
  | .slipConsumerIndexWrite byte => Sys2Proof.Machine.execSlipConsumerIndexWrite byte s
  | .feedProducerIndexWrite byte => Sys2Proof.Machine.execFeedProducerIndexWrite byte s
  | .scanReleaseIndexWrite byte => Sys2Proof.Machine.execScanReleaseIndexWrite byte s
  | .commandArgumentWrite byte => Sys2Proof.Machine.execCommandArgumentWrite byte s
  | .clear => Sys2Proof.Machine.execClear s
  | .abortSend => Sys2Proof.Machine.execAbortSend s
  | .abortScan => Sys2Proof.Machine.execAbortScan s
  | .abortAll => Sys2Proof.Machine.execAbortAll s
  | .spin => Sys2Proof.Machine.execSpin s
  | .releaseSpin => Sys2Proof.Machine.execReleaseSpin s
  | .unknownCommand code => Sys2Proof.Machine.execUnknownCommand code s
  | .transferComplete => Sys2Proof.Machine.execTransferComplete s
  | .jobFetchStart => Sys2Proof.Machine.execJobFetchStart s
  | .dispatch pins => Sys2Proof.Machine.execDispatch pins s
  | .slipWriteStart => Sys2Proof.Machine.execSlipWriteStart s
  | .statusWriteStart => Sys2Proof.Machine.execStatusWriteStart s
  | .statusSpacingPassed => Sys2Proof.Machine.execStatusSpacingPassed s
  | .readWindowExpiry => Sys2Proof.Machine.execReadWindowExpiry s
  | .jobTimerExpiry pins => Sys2Proof.Machine.execJobTimerExpiry pins s
  | .imageByteReceived byte => Sys2Proof.Machine.execImageByteReceived byte s
  | .tickCounterWrap => Sys2Proof.Machine.execTickCounterWrap s
  | .indexCapture tick pins servoFirst => Sys2Proof.Machine.execIndexCapture tick pins servoFirst s
  | .pwmPeriodStart => Sys2Proof.Machine.execPwmPeriodStart s
  | .lockTimeout => Sys2Proof.Machine.execLockTimeout s
  | .stallTimeExpiry => Sys2Proof.Machine.execStallTimeExpiry s
  | .slotStart => Sys2Proof.Machine.execSlotStart s
  | .slotCentre => Sys2Proof.Machine.execSlotCentre s
  | .lineTimerExpiry => Sys2Proof.Machine.execLineTimerExpiry s
  | .lineTimerSlotStart => Sys2Proof.Machine.execLineTimerSlotStart s
  | .conversionComplete value => Sys2Proof.Machine.execConversionComplete value s
  | .forwardStep pins => Sys2Proof.Machine.execForwardStep pins s
  | .homingStep pins => Sys2Proof.Machine.execHomingStep pins s
  | .homeActive => Sys2Proof.Machine.execHomeActive s
  | .homeTimeout => Sys2Proof.Machine.execHomeTimeout s
  | .lampSettleExpiry => Sys2Proof.Machine.execLampSettleExpiry s
  | .toneSample => Sys2Proof.Machine.execToneSample s
  | .readyTimeout => Sys2Proof.Machine.execReadyTimeout s
  | .receiptTimeout => Sys2Proof.Machine.execReceiptTimeout s
  | .lineLost => Sys2Proof.Machine.execLineLost s
  | .rxcCapture micro => Sys2Proof.Machine.execRxcCapture micro s
  | .detectorSilence => Sys2Proof.Machine.execDetectorSilence s
  | .resetRelease => Sys2Proof.Machine.execResetRelease s

end Sys2Proof.Machine
end

