-- ==== Sys2Proof/Safety.lean ====
section
/-! DEFINITION. What a safe run keeps: the canonical form of RAM, ATTN with the pending causes, rest before a
placement is in force, at most four slips and jobs, and no finished job left over. Nothing faults (`Fault` is
empty), so safety here is these invariants. -/

namespace Sys2Proof.Machine

/-! ## RAM -/

/-- The offset of a host access. -/
def HostAccess.offset : HostAccess → Nat
  | .read x => x
  | .write x _ => x

/-- A transfer on the port lies in RAM. -/
def Port.inside : Port → Bool
  | .part t => decide (t.offset < Config.ramSize)
  | .idle | .host => true

/-- A waiting access lies in RAM. -/
def waitingInside (w : Option Waiting) : Bool :=
  match w with
  | some w => decide (w.access.offset < Config.ramSize)
  | none => true

/-- RAM is in canonical form, and no access under way lies outside it (R1). -/
def State.ramGood (s : State) : Bool := s.ram.wf && s.part.path.port.inside && waitingInside s.part.path.waiting

/-- No access waits and nothing holds the port, so that a host access is granted at once (R11). -/
def State.busIdle (s : State) : Bool := decide (s.part.path.port = .idle) && s.part.path.waiting.isNone

/-! ## Attention and rest -/

/-- ATTN is asserted exactly when some pending, enabled cause exists (R166). -/
def Part.attnFollows (p : Part) : Bool :=
  decide (p.status.attn = attnLevel p.status.pending p.settings.attentionMask)

/-- No part transfer holds the port. -/
def Port.noPart : Port → Bool
  | .part _ => false
  | .idle | .host => true

/-- No job, no slip, no fetch (R49). -/
def Dispatcher.atRest (d : Dispatcher) : Bool :=
  d.fetch.isNone && d.pendingJob.isNone && d.scanJob.isNone && d.relayJob.isNone && d.slipQueue.isEmpty

/-- The drum STOPPED and undriven with no demand (R68). -/
def Servo.atRest (v : Servo) : Bool :=
  decide (v.drum = .stopped) && decide (v.demands = Demands.none) && decide (v.duty = 0) &&
    decide (v.nextDuty = 0) && decide (v.activeDuty = 0) && !v.lockRunning

/-- IDLE with LAMP off, no pulse and nothing under way (R105). -/
def Scanner.atRest (c : Scanner) : Bool :=
  decide (c.state = .idle) && !c.homing && decide (c.stepsOwed = 0) && c.openLine.isNone && c.convSet.isNone &&
    c.fifo.isEmpty && !c.lamp && !c.step && !c.reverse

/-- IDLE in silence with no line in hand (R139). -/
def Sender.atRest (d : Sender) : Bool := decide (d.state = .idle) && d.hand.isNone && decide (d.txa = 128)

/-- No write, no window, no cause, ATTN inactive (R166, R167). -/
def StatusWriter.atRest (t : StatusWriter) : Bool :=
  t.write.isNone && t.window.isNone && decide (t.pending = 0) && !t.attn && t.spacing.isNone

/-- Nothing guarded, held or transferred by the part (R14). -/
def MemoryPath.atRest (m : MemoryPath) : Bool :=
  decide (m.guards = GuardSet.empty) && m.port.noPart && m.waiting.isNone && !m.wait

/-- Every block at rest (R14, R23, R27). -/
def Part.atRest (p : Part) : Bool :=
  p.path.atRest && p.disp.atRest && p.servo.atRest && p.angle.schedule.isNone && p.timer.running.isNone &&
    p.scanner.atRest && p.sender.atRest && p.detector.previous.isNone && p.slips.write.isNone && p.status.atRest

/-- In LOADING and PASS_ONLY every block is at rest (R14, R23, R27). -/
def Part.restsUnplaced (p : Part) : Bool := p.placed || p.atRest

/-- Settings are in force exactly in CLOSED and OPEN (R3, R23, R24, R27). -/
def Part.acceptedPlaced (p : Part) : Bool := decide (p.loader.accepted.isSome = p.placed)

/-! ## Jobs -/

/-- Slips queued plus jobs running (R33). -/
def Part.slipLoad (p : Part) : Nat := p.disp.slipQueue.length + p.runningJobs

/-- The part between events: no job whose active sides have all finished is still running (R41), the lock timer
stands while the drum is LOCKED (R65), the speed-fault mark is clear while the drum has no job (R64), no fetch runs
beside a pending job (R29), and a change of the demand in force is left open only for a dispatch that is due (R52). -/
def Part.settled (p : Part) : Bool :=
  !p.jobOver .scan && !p.jobOver .relay && !(decide (p.servo.drum = .locked) && p.servo.lockRunning) &&
    (p.drumHasJob || !p.servo.speedFaultMark) && (p.disp.fetch.isNone || p.disp.pendingJob.isNone) &&
    (match p.servo.unsettled with
     | none => true
     | some was => p.awaitsDispatch && decide (was ≠ p.servo.demands.inForce))

end Sys2Proof.Machine
end

