-- ==== Sys2Proof/Certificates/Slice0/Obligations.lean ====
section
/-! DEFINITION. The statements for the provers. -/

open Sys2Proof Sys2Proof.Machine

namespace Sys2Proof.Claims

/-- The blocks of the part, as names for frames. -/
inductive Block where
  | pins | phc | resetActive | choices | clock | loader | path | disp | servo | angle | timer | scanner | sender
  | detector | slips | status
  deriving DecidableEq, Repr

/-- Block `b` is in `q` as it was in `p`. -/
def Block.same (b : Block) (p q : Part) : Prop :=
  match b with
  | .pins => q.pins = p.pins
  | .phc => q.phc = p.phc
  | .resetActive => q.resetActive = p.resetActive
  | .choices => q.choices = p.choices
  | .clock => q.clock = p.clock
  | .loader => q.loader = p.loader
  | .path => q.path = p.path
  | .disp => q.disp = p.disp
  | .servo => q.servo = p.servo
  | .angle => q.angle = p.angle
  | .timer => q.timer = p.timer
  | .scanner => q.scanner = p.scanner
  | .sender => q.sender = p.sender
  | .detector => q.detector = p.detector
  | .slips => q.slips = p.slips
  | .status => q.status = p.status

/-- Every block but the named ones is in `q` as it was in `p`. -/
def sameBut (named : List Block) (p q : Part) : Prop := ∀ b : Block, b ∉ named → b.same p q

/-- A command answers a next state of which `post` holds. -/
def answers (c : Instr) (s : State) (post : State → Prop) : Prop := ∃ t, exec c s = .next t ∧ post t

/-- A command that reaches the part as a host access (Table 1.3-1). -/
def isHostCommand : Instr → Bool
  | .hostRead _ | .hostWrite _ _ | .readStatusByte0 | .readStatusByte1 | .readStatusByte31 => true
  | .jobProducerIndexWrite _ | .slipConsumerIndexWrite _ | .feedProducerIndexWrite _ => true
  | .scanReleaseIndexWrite _ | .commandArgumentWrite _ => true
  | .clear | .abortSend | .abortScan | .abortAll | .spin | .releaseSpin | .unknownCommand _ => true
  | _ => false

/-- The host access that a command asks for (R1, R2, Table 1.3-1), while a placement is in force. -/
def accessOf (p : Part) : Instr → Option HostAccess
  | .hostRead x => some (.read x.toNat)
  | .hostWrite x b => some (.write x.toNat b)
  | .readStatusByte0 => some (.read (ramOffset p.settings.statusBase))
  | .readStatusByte1 => some (.read (ramOffset (p.settings.statusBase + 1)))
  | .readStatusByte31 => some (.read (ramOffset (p.settings.statusBase + 31)))
  | .jobProducerIndexWrite b => some (.write (ramOffset p.settings.requestBase) b)
  | .slipConsumerIndexWrite b => some (.write (ramOffset (p.settings.requestBase + 1)) b)
  | .feedProducerIndexWrite b => some (.write (ramOffset (p.settings.requestBase + 2)) b)
  | .scanReleaseIndexWrite b => some (.write (ramOffset (p.settings.requestBase + 3)) b)
  | .commandArgumentWrite b => some (.write (ramOffset (p.settings.requestBase + 4)) b)
  | .clear => some (.write (ramOffset (p.settings.requestBase + 5)) 0x01)
  | .abortSend => some (.write (ramOffset (p.settings.requestBase + 5)) 0x02)
  | .abortScan => some (.write (ramOffset (p.settings.requestBase + 5)) 0x03)
  | .abortAll => some (.write (ramOffset (p.settings.requestBase + 5)) 0x04)
  | .spin => some (.write (ramOffset (p.settings.requestBase + 5)) 0x05)
  | .releaseSpin => some (.write (ramOffset (p.settings.requestBase + 5)) 0x06)
  | .unknownCommand code => some (.write (ramOffset (p.settings.requestBase + 5)) code)
  | _ => none

/-- The close of an event in which no job ends and no demand changes: a changed field of the status block marks
it dirty (R160), and an idle port is granted (R11). `MarksRaisesAndGrants` says what it can change. -/
def ends (before after : Part) : Part := grantIdle (markChanges before after)

/-- The command leaves exactly this part, every byte of RAM as it was, and the queue. -/
def endsIn (c : Instr) (s : State) (q : Part) : Prop :=
  answers c s fun t => t.part = q ∧ t.pending = s.pending ∧ ∀ a : Nat, t.ram.read a = s.ram.read a

/-- The same, with the marks and the grant at the close of the event. -/
def leaves (c : Instr) (s : State) (q : Part) : Prop := endsIn c s (ends s.part q)

/-- The command stores byte `b` at offset `x` and no other byte, and leaves this part at the close of its event. -/
def stores (c : Instr) (s : State) (x : Nat) (b : Byte) (q : Part) : Prop :=
  answers c s fun t => t.part = ends s.part q ∧ t.pending = s.pending ∧ t.ram.read x = b ∧
    ∀ a : Nat, a ≠ x → t.ram.read a = s.ram.read a

/-- The memory path while the host holds the port. -/
def hostPort (p : Part) : MemoryPath := { p.path with port := .host }

/-- A state in which the host may begin an access that is granted at once, between two events. -/
abbrev quiet (s : State) : Prop := s.busIdle = true ∧ s.part.settled = true

/-- A quiet state in which request byte `i` lies in RAM outside the guard set, as it does in every placement that
passed the checks of R22. -/
abbrev writable (i : Nat) (s : State) : Prop :=
  quiet s ∧ s.ram.wf = true ∧ s.part.settings.requestBase + i < Config.ramSize ∧
    s.part.path.guards.covers (s.part.settings.requestBase + i) = false

/-- The command stores `b` in request byte `i` and leaves this part. -/
def takes (c : Instr) (s : State) (i : Nat) (b : Byte) (q : Part) : Prop :=
  stores c s (s.part.settings.requestBase + i) b q

/-- The dispatcher after the echo of a command (R42). -/
def echoed (code : Byte) (result : CommandResult) (d : Dispatcher) : Dispatcher :=
  { d with lastCode := code, lastResult := result, commandCount := d.commandCount + 1 }

/-- The distance from `a` up to `b` in a ring: (b − a) mod size. -/
def upFrom (size a b : Nat) : Int := ((b : Int) - (a : Int)) % (size : Int)

/-- The pending record, if there is one, marked to cancel (R44). One that waits goes on waiting, since the command is
no event at which the gate is checked (R33, Table 3.4-2). -/
def toCancel (p : Part) : Option PendingJob :=
  p.disp.pendingJob.map fun r => { r with toCancel := true, held := r.held || !p.gatePasses r }

/-- The pending record, if there is one, after an event at which the gate is checked (R33). -/
def checked (r : Option PendingJob) : Option PendingJob := r.map fun r => { r with held := false }

/-- The job that stood in a slot has this first cause and this detail: it runs on with them, or it has ended and
its slip, with them, is in the queue. -/
def causedIn (slot : JobSlot) (spec : JobSpec) (cause : Cause) (detail : Option Detail) (p : Part) : Prop :=
  (∃ j, p.jobAt slot = some j ∧ j.spec = spec ∧ j.firstCause = some cause ∧ j.tally.detail = detail) ∨
  (p.jobAt slot = none ∧
    ∃ sl ∈ p.disp.slipQueue, sl.spec = spec ∧ sl.result = cause ∧ sl.tally.detail = detail)

/-- The increment in force after the start of slot `k` where no pixel is due: white in START, the phasing pulse,
white in the strip and the gap of an image line, black in STOP; the increment stands in the silent states. -/
def slotIncrement (p : Part) (k : Nat) : Nat :=
  match p.sender.state with
  | .start | .image => p.derived.whiteIncrement
  | .phasing => if k < p.settings.pulseWidth then p.derived.blackIncrement else p.derived.whiteIncrement
  | .stop => p.derived.blackIncrement
  | .idle | .calling | .standby | .awaitReceipt => p.sender.increment

/-- A RELAY whose sender has begun, the only sender job, with no demand of a LIVE. -/
abbrev relaySends (p : Part) (j : Job) : Prop :=
  p.disp.relayJob = some j ∧ j.spec.kind = .relay ∧ j.spec.holdSpin = false ∧ j.scannerSide.active = false ∧
    j.senderSide = ⟨true, false⟩ ∧ j.firstCause = none ∧ p.servo.demands.live = none

/-- The sender after it has reached IDLE (R138). -/
def idleSender (d : Sender) : Sender :=
  { d with state := .idle, increment := 0, fifo := [], timeout := 0, lossCount := 0, lossOffered := false,
           callMark := false }

/-- A requester that stops the work of its transfer on the port: the transfer completes, and nothing comes of it
(R103, R132). -/
def withdrawn (who : Requester) (m : MemoryPath) : MemoryPath :=
  match m.port with
  | .part tr => if tr.who = who then { m with port := .part { tr with withdrawn := true } } else m
  | .idle | .host => m

/-- Step 1 of R127: the line in hand is released, its bytes and its request are dropped (R132). A taken line advances
its ring's consumer index and leaves the guard set, and a feed slot raises FEEDFREE; a repeated one leaves the guard
set alone, and a white one holds no slot. -/
def released (p : Part) : Part :=
  match p.sender.hand with
  | none => p
  | some h =>
    let path := withdrawn .lineSender p.path
    let freed : MemoryPath := { path with guards := { path.guards with sending := none } }
    let empty : Sender := { p.sender with hand := none, fifo := [] }
    match h.kind, h.ring with
    | .white, _ => { p with path := path, sender := empty }
    | .repeated, _ => { p with path := freed, sender := empty }
    | .taken, .scan =>
      { p with path := freed, sender := empty,
               scanner := { p.scanner with senderIndex := (p.scanner.senderIndex + 1) % p.settings.scanSize } }
    | .taken, .feed =>
      ({ p with path := freed,
                sender := { empty with feedConsumer := (p.sender.feedConsumer + 1) % p.settings.feedSize } } :
        Part).raise .feedFree

/-- A sender that goes to STOP (R39, R134): black, its line released, STOP count 0. -/
def toStop (p : Part) : Part :=
  let r := released p
  { r with sender := { r.sender with state := .stop, increment := p.derived.blackIncrement, stopCount := 0,
                                     callMark := false, fifo := [] } }

/-- A scanner told to wind down, HOME inactive (R39, R104): RETURN with LAMP off, in a homing. In SCAN the open line
is abandoned, its bytes and its request are dropped, its slot leaves the guard set, and the position falls by the
steps still owed (R103); from HOMING the position is unknown (R87). -/
def returning (p : Part) : Part :=
  let homing : Scanner → Scanner := fun c =>
    { c with state := .back, lamp := false, armed := false, homing := true, reverse := true, homeCount := 0,
             stepTicks := 0 }
  let c := p.scanner
  match c.state with
  | .back | .idle => p
  | .homing => { p with scanner := homing { c with position := none } }
  | .warmup | .waitLock => { p with scanner := homing c }
  | .scan =>
    let m := withdrawn .scanner p.path
    { p with path := { m with guards := { m.guards with scanFill := none } },
             scanner := homing { c with openLine := none, fifo := [], convSet := none, stepsOwed := 0,
                                        position := c.position.map (· - c.stepsOwed) } }

/-- The line in hand is a taken one marked LAST (R130). -/
abbrev lastInHand (d : Sender) : Prop := ∃ h, d.hand = some h ∧ h.kind = .taken ∧ h.last = true

/-- A change of target on a turning drum (R57): LOCKING when a period is held within the limit of the new speed, and
SPINUP otherwise; from SPINDOWN the quiet count starts again. -/
def retargeted (cfg : Settings) (speed : Nat) (v : Servo) : Servo :=
  let near := v.period ≠ 0 ∧ v.period ≤ Config.nominalPeriod speed + Config.nominalPeriod speed / 4
  let w : Servo := { v with target := speed, outsideCount := 0, faultCount := 0,
                            quiet := if v.drum = .spindown then 0 else v.quiet }
  if near then
    { w with drum := .locking, integral := 0, lockCount := 0, duty := cfg.baseDuty speed,
             nextDuty := cfg.baseDuty speed }
  else { w with drum := .spinup, goodCount := 0, duty := cfg.spinupDuty, nextDuty := cfg.spinupDuty }

/-- The drum after the servo has found the demand in force afresh, which was `was` before (R52, R53): nothing is left
open. The same speed leaves the drum, I and D alone; another starts a STOPPED drum in SPINUP (R54) or changes the
target of a turning one (R57), and none ends the drive in SPINDOWN (R53), where the target speed code stands (log 49).
A drum that leaves LOCKED disarms the scanner (R60, R90), and its lock timer starts again for a scanner-side demand
that waits for SCAN (R65). -/
def driven (was : Option Nat) (p : Part) : Part :=
  let cfg := p.settings
  let v : Servo := { p.servo with unsettled := none }
  let lost := v.drum = .locked
  let timed := lost ∧ (demandSpeed v.demands.scanner).isSome = true ∧ p.scanner.enteredScan = false ∧
    v.noLockOffered = false
  let turned : Servo → Part := fun w =>
    { p with servo := w, scanner := if lost then { p.scanner with armed := false } else p.scanner }
  if was = v.demands.inForce then
    { p with servo := { v with lockRunning := if lost then false else v.lockRunning } }
  else
    match v.demands.inForce with
    | some speed =>
      if v.drum = .stopped then
        { p with servo := { v with target := speed, drum := .spinup, goodCount := 0, quiet := 0,
                                   duty := cfg.spinupDuty, nextDuty := cfg.spinupDuty } }
      else
        turned (retargeted cfg speed
          { v with lockTimer := if timed then 0 else v.lockTimer,
                   lockRunning := if timed then true else v.lockRunning })
    | none =>
      if v.drum = .stopped ∨ v.drum = .spindown then { p with servo := v }
      else
        turned { v with drum := .spindown, duty := 0, nextDuty := 0, goodCount := 0, lockCount := 0,
                        outsideCount := 0, faultCount := 0, lockTimer := if timed then 0 else v.lockTimer,
                        lockRunning := false }

/-- The demand in force as the servo last found it: the one before a change that is left open (log 52), or else the
one that is in force. -/
def lastFound (v : Servo) : Option Nat := v.unsettled.getD v.demands.inForce

/-- A two-byte field, low byte first (ch 12). -/
def field (n : Nat) : List Byte := [BitVec.ofNat 8 n, BitVec.ofNat 8 (n / 256)]

/-- The 32 bytes of a status block (Table 12.2-1). -/
def statusImage (p : Part) : List Byte :=
  let byte := BitVec.ofNat 8
  [p.status.sequence, p.status.pending, byte p.disp.jobConsumer, byte p.slips.producer, byte p.scanner.producer,
    byte p.scanner.senderIndex, byte p.sender.feedConsumer,
    byte (16 * p.loader.device.code + p.scanner.state.code), byte (16 * p.sender.state.code + p.servo.drum.code)] ++
  field p.servo.period ++ [byte (p.servo.period / 65536)] ++ field p.scanner.white ++ field p.scanner.black ++
  field p.scanner.line ++ field p.sender.line ++ field (p.scanner.position.getD 0xFFFF) ++ [byte p.path.guardHits] ++
  field p.path.firstGuarded ++
  [p.disp.lastCode, byte p.disp.lastResult.code, p.disp.commandCount, byte p.disp.rejections, byte p.status.forced,
    byte ((p.status.lastTone.map Tone.code).getD 0), p.status.sequence]

/-- The 48 bytes of a slip with its sequence (Table 12.5-1). -/
def slipImage (sl : Slip) (sequence : Byte) : List Byte :=
  let byte := BitVec.ofNat 8
  let bit : Bool → Nat → Nat := fun set weight => if set then weight else 0
  let t := sl.tally
  let event : Nat → List Byte := fun i =>
    match t.events[i]? with
    | some e => byte e.kind.code :: field e.line
    | none => [0, 0, 0]
  [sequence, byte sl.result.code,
    byte (bit t.isShort 1 + bit t.detail.isSome 2 + bit (decide (0 < t.dropped)) 4 + bit t.notHome 8 + bit t.keepUsed 16),
    byte (16 * min 15 sl.spec.kind.code + min 15 sl.spec.speed)] ++
  field sl.spec.tag.toNat ++ field sl.spec.lines ++ field t.linesFresh ++ field t.linesRepeated ++ field t.lineEvents ++
  field t.noiseHeld ++ field t.underruns ++
  [byte t.damaged, byte t.skipped, byte t.stripFaults, byte t.excursions] ++
  field t.worstError ++ field t.white ++ field t.black ++
  [byte (bit t.tones.ready 1 + bit t.tones.halt 2 + bit t.tones.receipt 4), byte t.phasingSent, byte t.events.length,
    byte t.dropped] ++
  event 0 ++ event 1 ++ event 2 ++ event 3 ++
  (match t.detail with
   | some d => byte d.side :: byte d.state :: field d.line
   | none => [0, 0, 0, 0])

/-- The codes that RAM shows for names (Tables 10.2-1, 11.4-1, 12.2-1 and 12.3-1, R37). -/
abbrev codesStand : Prop :=
  [DeviceState.closed, .opened].map DeviceState.code = [2, 3] ∧
  [ScannerState.idle, .homing, .warmup, .waitLock, .scan, .back].map ScannerState.code = [0, 1, 2, 3, 4, 5] ∧
  [SenderState.idle, .calling, .standby, .start, .phasing, .image, .stop, .awaitReceipt].map SenderState.code =
    [0, 1, 2, 3, 4, 5, 6, 7] ∧
  [DrumState.stopped, .spinup, .locking, .locked, .spindown].map DrumState.code = [0, 1, 2, 3, 4] ∧
  [Tone.ready, .halt, .receipt].map Tone.code = [1, 2, 3] ∧
  [CommandResult.done, .unknown, .notOpen, .badArg, .nothing].map CommandResult.code = [0, 1, 2, 3, 4] ∧
  [JobKind.live, .store, .relay, .other 0, .other 4, .other 255].map JobKind.code = [1, 2, 3, 0, 4, 255] ∧
  [Attention.slip, .jobTaken, .scanLine, .feedFree, .command, .guard, .drum, .start].map Attention.bit =
    [0x01, 0x02, 0x04, 0x08, 0x10, 0x20, 0x40, 0x80] ∧
  [Cause.delivered, .sent, .sentUnconfirmed, .stored, .rejected, .halted, .noAnswer, .lineLost, .noLine].map Cause.code =
    [0x00, 0x01, 0x02, 0x03, 0x10, 0x11, 0x12, 0x13, 0x14] ∧
  [Cause.noLock, .drumStall, .speedFault, .lampFault, .homeFault, .scanStall, .feedStall].map Cause.code =
    [0x20, 0x21, 0x22, 0x23, 0x24, 0x25, 0x26] ∧
  [Cause.aborted, .cancelled, .badJob].map Cause.code = [0x30, 0x31, 0x32] ∧
  [Cause.readyUnexpected, .receiptUnexpected, .haltLate, .feedOrder, .homeLate, .abortLate].map Cause.code =
    [0x40, 0x41, 0x42, 0x43, 0x44, 0x45]

/-- The line timer stopped (R81). -/
def stoppedTimer (t : LineTimer) : LineTimer :=
  { t with running := none, count := 0, begun := false, nextStart := 0 }

/-- The setting of each byte or two bytes of an image (Table 12.6-1, R21). -/
def settingsRead : Prop :=
  ∀ image : List Byte,
    let c := parseSettings image
    let b : Nat → Nat := fun i => (image.getD i 0).toNat
    let w : Nat → Nat := fun i => b i + 256 * b (i + 1)
    [c.statusBase, c.requestBase, c.jobBase, c.slipBase, c.scanBase, c.feedBase, c.image, c.noiseLimit, c.minContrast,
      c.defaultWhite, c.defaultBlack] = [4, 6, 8, 11, 14, 17, 21, 25, 27, 30, 32].map w ∧
    [c.blackTone, c.whiteTone, c.ready.centre, c.halt.centre, c.receipt.centre, c.baseDuty0, c.baseDuty1, c.baseDuty2,
      c.spinupDuty, c.lockWindow, c.excursion, c.faultLimit, c.positionLimit] =
      [102, 104, 111, 114, 117, 125, 127, 129, 131, 133, 135, 137, 144].map w ∧
    [c.jobCode, c.slipCode, c.scanCode, c.feedCode, c.strip, c.gap, c.conversions, c.stripFaultLimit, c.outputGain,
      c.startRevs, c.phasingRevs, c.stopRevs, c.pulseWidth] =
      [10, 13, 16, 19, 20, 23, 24, 29, 106, 107, 108, 109, 110].map b ∧
    [c.ready.tolerance, c.halt.tolerance, c.receipt.tolerance, c.persistence, c.readyTimeout, c.receiptTimeout, c.kp,
      c.ki, c.lockTimeout, c.stallTime, c.stepsPerLine, c.returnStep, c.homeTimeout, c.lampSettle, c.stallLimit,
      c.statusSpacing, c.windowExpiry, c.attentionMask.toNat] =
      [113, 116, 119, 120, 121, 122, 123, 124, 139, 140, 141, 142, 143, 146, 147, 148, 149, 150].map b ∧
    c.curves = [34, 51, 68, 85].map fun i => (List.range 17).map fun k => b (i + k)

/-- The range check (R21, Table 2.3-1). -/
def rangesChecked : Prop :=
  ∀ c : Settings, c.rangesGood = true ↔
    (c.statusBase ≤ 0x7FE0 ∧ c.statusBase % 32 = 0 ∧ c.requestBase ≤ 0x7FFA ∧
      (∀ base ∈ [c.jobBase, c.slipBase, c.scanBase, c.feedBase], base ≤ 0x7FFF) ∧
      c.jobCode ≤ 3 ∧ c.slipCode ≤ 3 ∧ c.scanCode ≤ 2 ∧ c.feedCode ≤ 2) ∧
    (16 ≤ c.strip ∧ c.strip ≤ 64 ∧ c.strip % 8 = 0 ∧ 128 ≤ c.image ∧ c.image ≤ 1024 ∧ c.image % 16 = 0 ∧
      8 ≤ c.gap ∧ c.gap ≤ 64 ∧ c.conversions ∈ [1, 2, 4, 8] ∧ c.noiseLimit ≤ 1023 ∧ 16 ≤ c.minContrast ∧
      c.minContrast ≤ 1023 ∧ 1 ≤ c.stripFaultLimit ∧ c.stripFaultLimit ≤ 15 ∧ c.defaultWhite ≤ 1023 ∧
      c.defaultBlack ≤ 1023) ∧
    ((∀ tone ∈ [c.blackTone, c.whiteTone], 800 ≤ tone ∧ tone ≤ 3000) ∧ 1 ≤ c.outputGain ∧ c.outputGain ≤ 16 ∧
      1 ≤ c.startRevs ∧ c.startRevs ≤ 63 ∧ 1 ≤ c.phasingRevs ∧ c.phasingRevs ≤ 31 ∧ 1 ≤ c.stopRevs ∧
      c.stopRevs ≤ 15 ∧ 1 ≤ c.pulseWidth ∧ c.pulseWidth ≤ c.strip ∧
      (∀ t ∈ [c.ready, c.halt, c.receipt], 300 ≤ t.centre ∧ t.centre ≤ 3400 ∧ 10 ≤ t.tolerance ∧ t.tolerance ≤ 200) ∧
      8 ≤ c.persistence ∧ c.persistence ≤ 255 ∧ 1 ≤ c.readyTimeout ∧ c.readyTimeout ≤ 255 ∧ 1 ≤ c.receiptTimeout ∧
      c.receiptTimeout ≤ 255) ∧
    ((∀ duty ∈ [c.baseDuty0, c.baseDuty1, c.baseDuty2], duty ≤ 1024) ∧ 1 ≤ c.spinupDuty ∧ c.spinupDuty ≤ 1024 ∧
      1 ≤ c.lockWindow ∧ c.lockWindow ≤ 2000 ∧ 1 ≤ c.excursion ∧ c.excursion ≤ 4000 ∧ 1 ≤ c.faultLimit ∧
      c.faultLimit ≤ 8000 ∧ 1 ≤ c.lockTimeout ∧ c.lockTimeout ≤ 60 ∧ 1 ≤ c.stallTime ∧ c.stallTime ≤ 8) ∧
    (1 ≤ c.stepsPerLine ∧ c.stepsPerLine ≤ 16 ∧ 1 ≤ c.returnStep ∧ c.returnStep ≤ 255 ∧ 1 ≤ c.homeTimeout ∧
      c.homeTimeout ≤ 60 ∧ 1 ≤ c.positionLimit ∧ c.positionLimit ≤ 65535 ∧ 1 ≤ c.lampSettle ∧ c.lampSettle ≤ 255 ∧
      1 ≤ c.stallLimit ∧ c.stallLimit ≤ 63 ∧ c.statusSpacing ≤ 255 ∧ 1 ≤ c.windowExpiry ∧ c.windowExpiry ≤ 255)

/-- The extents of the six structures (Table 1.2-1), with the ring sizes of 12.6. -/
def placement (c : Settings) : List Region :=
  [⟨c.statusBase, 32⟩, ⟨c.requestBase, 6⟩, ⟨c.jobBase, 16 * (4 * 2 ^ c.jobCode)⟩,
    ⟨c.slipBase, 48 * (4 * 2 ^ c.slipCode)⟩, ⟨c.scanBase, (4 + c.image) * (4 * 2 ^ c.scanCode)⟩,
    ⟨c.feedBase, (4 + c.image) * (4 * 2 ^ c.feedCode)⟩]

/-- The cycles of an answer tone, from the least to the greatest (R22). -/
def cycles (t : ToneSetting) : Band :=
  ⟨(1000000 + (t.centre + t.tolerance) - 1) / (t.centre + t.tolerance), 1000000 / (t.centre - t.tolerance)⟩

/-- The relation check (R22). -/
def relationsChecked : Prop :=
  ∀ c : Settings, c.relationsGood = true ↔
    ((placement c).Pairwise fun r t => r.start + r.length ≤ t.start ∨ t.start + t.length ≤ r.start) ∧
    (∀ r ∈ placement c, r.start + r.length ≤ 32768) ∧
    c.defaultBlack + c.minContrast ≤ c.defaultWhite ∧
    3 * c.conversions ≤ 31250 / (c.strip + c.image + c.gap) ∧ c.pulseWidth ≤ c.strip ∧
    (c.blackTone + 200 ≤ c.whiteTone ∨ c.whiteTone + 200 ≤ c.blackTone) ∧
    (∀ t ∈ [c.ready, c.halt, c.receipt], (cycles t).low ≤ (cycles t).high ∧ (cycles t).high < 8000) ∧
    ([c.ready, c.halt, c.receipt].Pairwise fun t u =>
      (cycles t).high < (cycles u).low ∨ (cycles u).high < (cycles t).low) ∧
    c.lockWindow ≤ c.excursion ∧ c.excursion ≤ c.faultLimit

/-- The values derived at acceptance (R24): the extents, Q, the timeouts in job-timer expiries, the bands and the two
fixed increments. -/
def valuesDerived : Prop :=
  ∀ c : Settings,
    let d := c.derive
    [d.statusExtent, d.requestExtent, d.jobExtent, d.slipExtent, d.scanExtent, d.feedExtent] = placement c ∧
    d.slots = c.strip + c.image + c.gap ∧
    [d.lockCount, d.stallCount, d.homeCount, d.readyCount, d.receiptCount] =
      [c.lockTimeout, c.stallTime, c.homeTimeout, c.readyTimeout, c.receiptTimeout].map (100 * ·) ∧
    d.lampCount = c.lampSettle ∧ [d.readyBand, d.haltBand, d.receiptBand] = [c.ready, c.halt, c.receipt].map cycles ∧
    d.blackIncrement = levelIncrement c.blackTone c.whiteTone 0 ∧
    d.whiteIncrement = levelIncrement c.blackTone c.whiteTone 255

/-- A command at which the conversion set of slot `k` ends with the values `xs`, at the undamaged open line `l` (R93
to R95, R109, R110). `q` puts a scanner into the part without the set, and `next` is what the event goes on with. -/
def setEnds (cmd : Instr) (s : State) (xs : List Nat) (k : Nat) (l : OpenLine) (q : Scanner → Part)
    (next : Part → Part) : Prop :=
  let p := s.part
  let cfg := p.settings
  let width := cfg.strip + cfg.image
  let clean := slotNoisy cfg.noiseLimit xs = false
  let n := imagePixel cfg.noiseLimit p.scanner.white p.scanner.black l.previous xs
  let noise := if clean then l.noise else l.noise + 1
  let pixelled : OpenLine := { l with previous := some n, noise := noise }
  let inWhite := clean ∧ 2 ≤ k ∧ k + 3 ≤ cfg.strip / 2
  let inBlack := clean ∧ cfg.strip / 2 + 2 ≤ k ∧ k + 3 ≤ cfg.strip
  let m := slotMean xs
  let summed : OpenLine := { l with
    whiteSum := if inWhite then l.whiteSum + m else l.whiteSum,
    whiteCount := if inWhite then l.whiteCount + 1 else l.whiteCount,
    blackSum := if inBlack then l.blackSum + m else l.blackSum,
    blackCount := if inBlack then l.blackCount + 1 else l.blackCount }
  let white := (l.whiteSum + l.whiteCount / 2) / l.whiteCount
  let black := (l.blackSum + l.blackCount / 2) / l.blackCount
  let usable := cfg.strip / 2 - 4 ≤ 2 * l.whiteCount ∧ cfg.strip / 2 - 4 ≤ 2 * l.blackCount ∧
    black + cfg.minContrast ≤ white
  let run := min 15 (p.scanner.stripRun + 1)
  (cfg.strip ≤ k → k + 1 ≠ width → p.scanner.fifo.length < 64 →
    leaves cmd s
      (next (q { p.scanner with fifo := p.scanner.fifo ++ [BitVec.ofNat 8 n], openLine := some pixelled }))) ∧
  (cfg.strip ≤ k → k + 1 = width → p.scanner.fifo.length + 5 ≤ 64 →
    leaves cmd s
      (next (q { p.scanner with
        fifo := p.scanner.fifo ++ [BitVec.ofNat 8 n, BitVec.ofNat 8 p.scanner.line,
          BitVec.ofNat 8 (p.scanner.line / 256), if l.stripOk then 0x01 else 0x00, BitVec.ofNat 8 (min 255 noise)],
        openLine := some pixelled }))) ∧
  (cfg.strip ≤ k → (64 ≤ p.scanner.fifo.length ∨ (k + 1 = width ∧ 60 ≤ p.scanner.fifo.length)) →
    leaves cmd s
      { q { p.scanner with fifo := [], openLine := some { pixelled with
          damaged := true, whiteSum := 0, whiteCount := 0, blackSum := 0, blackCount := 0 } } with
        path := withdrawn .scanner p.path }) ∧
  (k + 1 < cfg.strip → leaves cmd s (next (q { p.scanner with openLine := some summed }))) ∧
  ∀ j, k + 1 = cfg.strip → p.disp.scanJob = some j →
    (usable →
      leaves cmd s
        (next { q { p.scanner with white := white, black := black, stripRun := 0,
                                   openLine := some { l with stripOk := true } } with
          disp := { p.disp with scanJob := some { j with tally := { j.tally with
            white := white, black := black } } } })) ∧
    (¬ usable → run < cfg.stripFaultLimit →
      leaves cmd s
        (next { q { p.scanner with stripRun := run } with
          disp := { p.disp with scanJob := some { j with tally := { j.tally with
            stripFaults := min 255 (j.tally.stripFaults + 1) } } } })) ∧
    (¬ usable → cfg.stripFaultLimit ≤ run → j.firstCause = none →
      answers cmd s fun t =>
        causedIn .scan j.spec .lampFault (some ⟨1, p.scanner.state.code, p.scanner.line⟩) t.part)

end Sys2Proof.Claims

open Sys2Proof.Claims

/-! ## The queue -/

/-- The step takes the command at the front of the queue. The queue is the model's own (log 1). -/
def Obligations.StepRunsTheFrontCommand : Prop :=
  ∀ (c : Instr) (rest : List Instr) (s : State),
    step { s with pending := c :: rest } = exec c { s with pending := rest }

/-- No command stops, and none touches the queue (log 1). -/
def Obligations.EveryCommandAnswersAndKeepsTheQueue : Prop :=
  ∀ (c : Instr) (s : State), ∃ t, exec c s = .next t ∧ t.pending = s.pending

/-! ## Invariants of every step -/

/-- The invariants below hold at reset. -/
def Obligations.ResetStateMeetsTheInvariants : Prop :=
  State.reset.ramGood = true ∧ State.reset.part.attnFollows = true ∧ State.reset.part.restsUnplaced = true ∧
    State.reset.part.slipLoad = 0 ∧ State.reset.part.settled = true ∧ State.reset.part.acceptedPlaced = true

/-- RAM keeps its canonical form, and no access leaves RAM. The form is the model's (log 9). -/
def Obligations.EveryStepKeepsRamCanonical : Prop :=
  ∀ s t : State, s.ramGood = true → step s = .next t → t.ramGood = true

/-- R166: ATTN is asserted exactly when some pending, enabled cause exists, at every step; and in LOADING and
PASS_ONLY, where every block rests, the pending set is empty and ATTN is inactive. -/
def Obligations.AttnFollowsPendingCausesAtEveryStep : Prop :=
  (∀ s t : State, s.part.attnFollows = true → step s = .next t → t.part.attnFollows = true) ∧
  (∀ s t : State, s.part.restsUnplaced = true → step s = .next t →
    t.part.restsUnplaced = true ∧ (t.part.placed = false → t.part.status.pending = 0 ∧ t.part.status.attn = false))

/-- Slips queued plus jobs running never pass 4 (R33, R155). -/
def Obligations.SlipsAndJobsNeverPassFour : Prop :=
  ∀ s t : State, s.part.slipLoad ≤ 4 → step s = .next t → t.part.slipLoad ≤ 4

/-- Between events no finished job is left over, the lock timer stands while the drum is LOCKED, the speed-fault mark
is clear while the drum has no job, no fetch runs beside a pending job, and a change of the demand in force is left
open only where the dispatch that belongs to it is due (R29, R41, R52, R64, R65; the open change: log 52). -/
def Obligations.EveryStepLeavesThePartSettled : Prop :=
  ∀ s t : State, s.part.settled = true → step s = .next t → t.part.settled = true

/-- Settings and derived values stand unchanged from acceptance until RESET (R24, R117, R142): every command but
RESET keeps them, and so does a step on an empty queue (log 1). -/
def Obligations.SettingsStandUntilReset : Prop :=
  (∀ (c : Instr) (s t : State), c ≠ .reset → s.part.placed = true → exec c s = .next t →
    t.part.loader.accepted = s.part.loader.accepted ∧ t.part.placed = true) ∧
  ∀ s t : State, s.pending = [] → s.part.placed = true → step s = .next t →
    t.part.loader.accepted = s.part.loader.accepted ∧ t.part.placed = true

/-- The device state moves only by the table of R17: RESET, an image accepted or refused, and from CLOSED to OPEN
only by a CLEAR taken, a write of 01H to request byte 5 that the command brings or that waits for the port (R26).
An idle beat leaves it. Settings are in force exactly in CLOSED and OPEN. -/
def Obligations.DeviceStateMovesOnlyByItsTable : Prop :=
  (∀ (c : Instr) (s t : State), exec c s = .next t →
    let clear : HostAccess := .write (s.part.settings.requestBase + 5) 0x01
    (t.part.loader.device = s.part.loader.device ∨
      (c = .reset ∧ t.part.loader.device = .loading) ∨
      (s.part.loader.device = .loading ∧ (∃ b, c = .imageByteReceived b) ∧
        (t.part.loader.device = .closed ∨ t.part.loader.device = .passOnly)) ∨
      (s.part.loader.device = .closed ∧ t.part.loader.device = .opened ∧
        (accessOf s.part c = some clear ∨ s.part.path.waiting.map Waiting.access = some clear))) ∧
    (s.part.acceptedPlaced = true → t.part.acceptedPlaced = true)) ∧
  ∀ p : Part, (idleBeat p).loader.device = p.loader.device ∧ (idleBeat p).acceptedPlaced = p.acceptedPlaced

/-- No host command changes a byte of the guard set (R2, R10). -/
def Obligations.GuardedBytesSurviveHostCommands : Prop :=
  ∀ (c : Instr) (s : State), isHostCommand c = true → s.busIdle = true → s.part.placed = true →
    answers c s fun t => ∀ a : Nat, s.part.path.guards.covers a = true → t.ram.read a = s.ram.read a

/-! ## Arithmetic -/

/-- R106: mean, spread and noisiness of the conversions of one slot. -/
def Obligations.SlotMeanAndSpread : Prop :=
  (∀ (xs : List Nat) (limit : Nat), xs ≠ [] → xs.length ≤ 8 → (∀ x ∈ xs, x ≤ 1023) →
    slotMean xs = (xs.sum + xs.length / 2) / xs.length ∧ xs.sum ≤ 8184 ∧
    (∃ least ∈ xs, ∃ most ∈ xs, (∀ x ∈ xs, least ≤ x ∧ x ≤ most) ∧
      slotSpread xs = most - least ∧ least ≤ slotMean xs ∧ slotMean xs ≤ most) ∧
    (slotNoisy limit xs = true ↔ limit < slotSpread xs) ∧
    (xs.length = 1 → slotSpread xs = 0 ∧ slotNoisy limit xs = false) ∧
    ((∃ x ∈ xs, ∃ y ∈ xs, x ≠ y) → slotNoisy 0 xs = true)) ∧
  ∀ limit : Nat, slotNoisy limit [] = true

/-- The pixel of a clean mean (R108): black at or below the black reference, white at or above the white one,
and between them 255 × x / d rounded with halves up. The pixel of an image slot is that of its mean when the slot is
clean; a noisy slot holds the previous pixel of the line, and 255 where there is none (R107). -/
def Obligations.NormalizedPixelIsTheRoundedRatio : Prop :=
  (∀ (limit w b : Nat) (previous : Option Nat) (xs : List Nat),
    imagePixel limit w b previous xs =
      if slotNoisy limit xs then previous.getD 255 else normalizedPixel w b (slotMean xs)) ∧
  ∀ w b m : Nat, b < w →
    normalizedPixel w b m ≤ 255 ∧
    (m ≤ b → normalizedPixel w b m = 0) ∧
    (w ≤ m → normalizedPixel w b m = 255) ∧
    (b < m → m < w →
      2 * (w - b) * normalizedPixel w b m ≤ 510 * (m - b) + (w - b) ∧
      510 * (m - b) + (w - b) < 2 * (w - b) * (normalizedPixel w b m + 1))

/-- R111: the level of a pixel lies on its segment of the curve, rounded with halves up. -/
def Obligations.CurveLevelLiesOnItsSegment : Prop :=
  ∀ (curve : List Nat) (n : Nat), curve.length = 17 → (∀ c ∈ curve, c ≤ 255) → n ≤ 255 →
    (curveLevel curve n : Int) = (curve.getD (n / 16) 0 : Int) +
      (((curve.getD (n / 16 + 1) 0 : Int) - (curve.getD (n / 16) 0 : Int)) * (n % 16 : Nat) + 8) / 16 ∧
    min (curve.getD (n / 16) 0) (curve.getD (n / 16 + 1) 0) ≤ curveLevel curve n ∧
    curveLevel curve n ≤ max (curve.getD (n / 16) 0) (curve.getD (n / 16 + 1) 0) ∧
    curveLevel curve n ≤ 255 ∧
    (n % 16 = 0 → curveLevel curve n = curve.getD (n / 16) 0) ∧
    (n = 255 → (curveLevel curve n = curve.getD 16 0 ↔
      -7 ≤ (curve.getD 16 0 : Int) - (curve.getD 15 0 : Int) ∧
        (curve.getD 16 0 : Int) - (curve.getD 15 0 : Int) ≤ 8))

/-- The increment of a level is the rounded quotient of R112. Every increment lies between the black and the white
increment, whichever tone is the higher, and within 6 554..24 576 for tones of 800..3 000 Hz (R112, R113). -/
def Obligations.IncrementsLieBetweenTheTones : Prop :=
  ∀ black white level : Nat, 800 ≤ black → black ≤ 3000 → 800 ≤ white → white ≤ 3000 → level ≤ 255 →
    (levelIncrement black white level : Int) =
      (((black : Int) * 255 + ((white : Int) - black) * level) * 65536 + 1020000) / 2040000 ∧
    min (levelIncrement black white 0) (levelIncrement black white 255) ≤ levelIncrement black white level ∧
    levelIncrement black white level ≤ max (levelIncrement black white 0) (levelIncrement black white 255) ∧
    6554 ≤ levelIncrement black white level ∧ levelIncrement black white level ≤ 24576

/-- A cycle lies in the band of at most one answer tone, and each band holds a cycle and lies below silence,
for settings that pass the relation check (R22, R142). -/
def Obligations.AcceptedBandsNeverShareACycle : Prop :=
  ∀ (cfg : Settings), cfg.relationsGood = true →
    (∀ b ∈ [cfg.ready.band, cfg.halt.band, cfg.receipt.band], b.low ≤ b.high ∧ b.high < 8000) ∧
    ∀ p : Nat, (cfg.ready.band.holds p = true → cfg.halt.band.holds p = false ∧ cfg.receipt.band.holds p = false) ∧
      (cfg.halt.band.holds p = true → cfg.receipt.band.holds p = false)

/-- The PI step keeps its clamps, and gives the sums of R61 where no clamp is reached, with the nominal periods of
Table 1-6 and the base duty of each speed code. -/
def Obligations.PiStepStaysInItsClamps : Prop :=
  [0, 1, 2].map Config.nominalPeriod = [62500, 41667, 31250] ∧
  (∀ cfg : Settings, [0, 1, 2].map cfg.baseDuty = [cfg.baseDuty0, cfg.baseDuty1, cfg.baseDuty2]) ∧
  ∀ (cfg : Settings) (target period : Nat) (integral : Int),
    let l := piStep cfg target integral period
    let e := (period : Int) - (Config.nominalPeriod target : Int);
    (-8191 : Int) ≤ l.error ∧ l.error ≤ 8191 ∧ -32768 ≤ l.integral ∧ l.integral ≤ 32767 ∧ l.duty ≤ 1024 ∧
    (-8191 ≤ e → e ≤ 8191 → l.error = e) ∧
    (-32768 ≤ integral + l.error → integral + l.error ≤ 32767 → l.integral = integral + l.error) ∧
    (0 ≤ (cfg.baseDuty target : Int) + (cfg.kp : Int) * l.error / 64 + (cfg.ki : Int) * l.integral / 1024 →
      (cfg.baseDuty target : Int) + (cfg.kp : Int) * l.error / 64 + (cfg.ki : Int) * l.integral / 1024 ≤ 1024 →
      (l.duty : Int) =
        (cfg.baseDuty target : Int) + (cfg.kp : Int) * l.error / 64 + (cfg.ki : Int) * l.integral / 1024)

/-- What the dispatcher keeps of a job record (R31, Table 12.3-1). A record is valid exactly when every field is in
its range, and a bad one keeps the offset of its first bad field. Tag, kind, speed code and lines requested stand as
read. A valid record has its defaults resolved from the settings, and keeps the flags that act on its kind alone. The
held mark, clear in a record just taken, is the model's (log 28). -/
def Obligations.JobRecordIsValidExactlyInRange : Prop :=
  ∀ (cfg : Settings) (bytes : List Byte) (cancel : Bool),
    let b : Nat → Nat := fun i => (bytes.getD i 0).toNat
    let lines := b 4 + 256 * b 5
    let flag : Nat → Bool := fun i => (bytes.getD 9 0).getLsbD i
    let r := takenRecord cfg bytes cancel
    (r.badField = none ↔
      (b 2 = 1 ∨ b 2 = 2 ∨ b 2 = 3) ∧ b 3 ≤ 2 ∧ 1 ≤ lines ∧ lines ≤ 4095 ∧ b 6 ≤ 3 ∧ b 7 ≤ 63 ∧ b 8 ≤ 31 ∧
        b 10 ≤ 16) ∧
    r.badField =
      (if b 2 ≠ 1 ∧ b 2 ≠ 2 ∧ b 2 ≠ 3 then some 2 else if 3 ≤ b 3 then some 3
      else if lines = 0 ∨ 4095 < lines then some 4 else if 3 < b 6 then some 6 else if 63 < b 7 then some 7
      else if 31 < b 8 then some 8 else if 16 < b 10 then some 10 else none) ∧
    r.toCancel = cancel ∧ r.held = false ∧
    r.spec.tag.toNat = b 0 + 256 * b 1 ∧
    r.spec.kind = (if b 2 = 1 then .live else if b 2 = 2 then .store else if b 2 = 3 then .relay else .other (b 2)) ∧
    r.spec.speed = b 3 ∧ r.spec.lines = lines ∧
    (r.badField = none →
      r.spec.curve = b 6 ∧
      r.spec.startRevs = (if b 7 = 0 then cfg.startRevs else b 7) ∧
      r.spec.phasingRevs = (if b 8 = 0 then cfg.phasingRevs else b 8) ∧
      r.spec.gain = (if b 10 = 0 then cfg.outputGain else b 10) ∧
      (r.spec.waitReady = true ↔ flag 0 = true ∧ b 2 ≠ 2) ∧
      (r.spec.waitReceipt = true ↔ flag 1 = true ∧ b 2 ≠ 2) ∧
      (r.spec.keep = true ↔ flag 2 = true ∧ b 2 = 1) ∧
      (r.spec.holdSpin = true ↔ flag 3 = true ∧ b 2 ≠ 3) ∧
      (r.spec.noStrip = true ↔ flag 4 = true ∧ b 2 ≠ 3))

/-! ## The close of an event -/

/-- What the close of an event, a raise and a grant can change: the dirty mark when a shown field has changed (R160),
the pending set, the fresh marks, ATTN and the urgent mark (R164, R166), and an idle port with the byte that leaves
the scan FIFO at a grant to the scanner (R11; the instant is log 14). When each part requester asks, and the offset
and byte of its transfer: the next byte of the line in hand (R132), of the open line, pixels first and the header last
(R95), of the status block (R162), of the slip at the head of the queue (R156) and of the job entry (R29). That a
change is found by comparing bytes 1 to 30 before and after the event is the model's reading (log 16), and an offset
past the end of RAM is taken modulo 8000H (log 26). -/
def Obligations.MarksRaisesAndGrants : Prop :=
  ∀ (p q : Part) (c : Attention),
    (markChanges p q).status = { q.status with dirty := q.status.dirty || decide (statusFields p ≠ statusFields q) } ∧
    sameBut [.status] q (markChanges p q) ∧
    (q.raise c).status = { q.status with pending := q.status.pending ||| c.bit, fresh := q.status.fresh ||| c.bit,
                                         dirty := true, urgent := true,
                                         attn := decide ((q.status.pending ||| c.bit) &&&
                                           q.settings.attentionMask ≠ 0) } ∧
    sameBut [.status] q (q.raise c) ∧
    sameBut [.path, .scanner] q (grantIdle q) ∧
    (q.path.port ≠ .idle → grantIdle q = q) ∧
    ((∀ r, q.wants r = false) → grantIdle q = q) ∧
    (q.path.port = .idle → ∀ r, q.wants r = true →
      (∀ r', q.wants r' = true → r' = r ∨ [Requester.lineSender, .scanner, .statusWriter, .slipWriter,
        .dispatcher].idxOf r < [Requester.lineSender, .scanner, .statusWriter, .slipWriter, .dispatcher].idxOf r') →
      (grantIdle q).path = { q.path with port := .part (q.transferOf r) } ∧
      (grantIdle q).scanner = (if r = .scanner then { q.scanner with fifo := q.scanner.fifo.tail } else q.scanner)) ∧
    let cfg := q.settings
    let slot : LineRing → Nat → Nat := fun ring i =>
      (if ring = .scan then cfg.scanBase else cfg.feedBase) + i * (4 + cfg.image)
    let moves : Requester → Nat → Byte → Prop := fun r x b => q.transferOf r = ⟨r, x % 32768, b, false⟩
    (q.sender.hand = none → q.wants .lineSender = false) ∧
    (∀ h, q.sender.hand = some h →
      (q.wants .lineSender = true ↔ h.kind ≠ .white ∧ h.nextRead < 4 + cfg.image ∧ q.sender.fifo.length < 64) ∧
      moves .lineSender (slot h.ring h.slot + h.nextRead) 0) ∧
    (q.scanner.openLine = none → q.wants .scanner = false) ∧
    (∀ l, q.scanner.openLine = some l →
      (q.wants .scanner = true ↔ l.damaged = false ∧ q.scanner.fifo ≠ []) ∧
      ∀ b, q.scanner.fifo.head? = some b →
        moves .scanner (slot .scan l.slot + if l.written < cfg.image then 4 + l.written else l.written - cfg.image) b) ∧
    (q.wants .statusWriter = true ↔ q.status.write ≠ none) ∧
    (∀ i, q.status.write = some i → moves .statusWriter (cfg.statusBase + i) 0) ∧
    (q.wants .slipWriter = true ↔ q.slips.write ≠ none) ∧
    (∀ w, q.slips.write = some w → ∀ sl, q.disp.slipQueue.head? = some sl →
      moves .slipWriter (cfg.slipBase + w.entry * 48 + w.written)
        ((slipImage sl (q.slips.sequence + 1)).getD w.written 0)) ∧
    (q.wants .dispatcher = true ↔ q.disp.fetch ≠ none) ∧
    (∀ f, q.disp.fetch = some f → moves .dispatcher (cfg.jobBase + f.entry * 16 + f.bytes.length) 0)

/-! ## The host port -/

/-- A host access served at once (R11): a read returns the RAM byte (R1) and changes nothing else, but at status
bytes 0, 1 and 31; a write that is not dropped puts its byte in RAM (R2) and, outside the request block, changes
nothing else; 00H in request byte 5 is no command (R42). That the byte moves at the grant is the
model's choice (log 12). -/
def Obligations.HostAccessesServedAtOnce : Prop :=
  (∀ (x : Offset) (s : State), quiet s →
    (s.part.placed = true → ∀ i ∈ [0, 1, 31], x.toNat ≠ s.part.settings.statusBase + i) →
    leaves (.hostRead x) s { s.part with path := { hostPort s.part with dataOut := s.ram.read x.toNat } }) ∧
  ∀ (x : Offset) (b : Byte) (s : State), quiet s → s.ram.wf = true →
    (s.part.placed = true → s.part.path.guards.covers x.toNat = false ∧
      ((∀ i < 6, x.toNat ≠ s.part.settings.requestBase + i) ∨
        (x.toNat = s.part.settings.requestBase + 5 ∧ b = 0))) →
    stores (.hostWrite x b) s x.toNat b { s.part with path := hostPort s.part }

/-- A write that falls in the guard set is dropped and acts on the guard state (R2, R7); the RAM byte keeps its value,
and the block that owns the region is not told. Every write to a guarded status block is one. An offset is in the
guard set when a region of one of the five owners covers it (R10). -/
def Obligations.DroppedWriteActsOnTheGuardState : Prop :=
  (∀ (x : Offset) (b : Byte) (s : State), quiet s → s.part.placed = true →
    s.part.path.guards.covers x.toNat = true →
    leaves (.hostWrite x b) s
      (({ s.part with path := { hostPort s.part with
            guardHits := min 255 (s.part.path.guardHits + 1),
            firstGuarded := if s.part.path.guardHits = 0 then x.toNat else s.part.path.firstGuarded } } : Part).raise
        .guard)) ∧
  (∀ (p : Part) (x : Nat),
    let g := p.path.guards
    (g.covers x = true ↔ ∃ owner ∈ [g.statusBlock, g.jobEntry, g.scanFill, g.sending, g.slipEntry],
      ∃ r, owner = some r ∧ r.start ≤ x ∧ x < r.start + r.length)) ∧
  ∀ (p : Part) (x : Nat), p.path.guards.statusBlock = some p.settings.statusRegion →
    p.settings.statusBase ≤ x → x < p.settings.statusBase + 32 → p.path.guards.covers x = true

/-- A host access that arrives behind a part transfer waits on WAIT with a count of 0 (R11); one that arrives
while a host transfer holds the port follows its completion (1.1; the model's order: log 13). -/
def Obligations.HostAccessWaitsItsTurn : Prop :=
  (∀ (x : Offset) (b : Byte) (s : State) (t : Transfer), s.part.path.port = .part t → s.part.path.waiting = none →
    endsIn (.hostRead x) s
      { s.part with path := { s.part.path with waiting := some ⟨.read x.toNat, 0⟩, wait := true } } ∧
    endsIn (.hostWrite x b) s
      { s.part with path := { s.part.path with waiting := some ⟨.write x.toNat b, 0⟩, wait := true } }) ∧
  ∀ (x : Offset) (b : Byte) (s t : State), s.part.path.port = .host → s.part.path.waiting = none →
    exec .transferComplete s = .next t →
    exec (.hostRead x) s = exec (.hostRead x) t ∧ exec (.hostWrite x b) s = exec (.hostWrite x b) t

/-- A command named by a structure's byte is the host access to that byte while the placement is in force
(Table 1.3-1), and has no place to act on otherwise (R3; the model's choice: log 15). -/
def Obligations.NamedAccessesAreAccessesToTheirBytes : Prop :=
  ∀ (b : Byte) (s : State),
    let read : Nat → Instr := fun i => .hostRead (BitVec.ofNat 15 (s.part.settings.statusBase + i))
    let write : Nat → Byte → Instr := fun i v => .hostWrite (BitVec.ofNat 15 (s.part.settings.requestBase + i)) v
    ∀ c ∈ [(Instr.readStatusByte0, read 0), (.readStatusByte1, read 1), (.readStatusByte31, read 31),
        (.jobProducerIndexWrite b, write 0 b), (.slipConsumerIndexWrite b, write 1 b),
        (.feedProducerIndexWrite b, write 2 b), (.scanReleaseIndexWrite b, write 3 b),
        (.commandArgumentWrite b, write 4 b), (.clear, write 5 0x01), (.abortSend, write 5 0x02),
        (.abortScan, write 5 0x03), (.abortAll, write 5 0x04), (.spin, write 5 0x05),
        (.releaseSpin, write 5 0x06), (.unknownCommand b, write 5 b)],
      exec c.1 s = if s.part.placed then exec c.2 s else .next s

/-- A read of status byte 0 opens the read window or restarts its count, and a read of byte 31 shuts it; a window
that expires shuts and is counted (R163); the spacing passes (R161). A read of status byte 1 takes out of the
pending set the causes of the byte 1 last written whose fresh mark is clear, and ATTN follows (R165, R166). -/
def Obligations.StatusReadsAndTheirWindow : Prop :=
  (∀ s : State, quiet s → s.part.placed = true → s.part.settings.statusBase + 31 < Config.ramSize →
    let read : Nat → MemoryPath := fun i =>
      { hostPort s.part with dataOut := s.ram.read (s.part.settings.statusBase + i) }
    let kept := s.part.status.pending &&& ~~~(s.part.status.lastByte1 &&& ~~~s.part.status.fresh)
    leaves .readStatusByte0 s { s.part with path := read 0, status := { s.part.status with window := some 0 } } ∧
    leaves .readStatusByte31 s { s.part with path := read 31, status := { s.part.status with window := none } } ∧
    leaves .readStatusByte1 s
      { s.part with path := read 1,
                    status := { s.part.status with pending := kept,
                                                   attn := attnLevel kept s.part.settings.attentionMask } }) ∧
  ∀ s : State,
    endsIn .statusSpacingPassed s { s.part with status := { s.part.status with spacing := none } } ∧
    ∀ n, s.part.status.window = some n →
      endsIn .readWindowExpiry s
        { s.part with status := { s.part.status with
            window := none, forced := min 255 (s.part.status.forced + 1),
            dirty := s.part.status.dirty || decide (lowByte s.part.status.forced ≠
              lowByte (min 255 (s.part.status.forced + 1))) } }

/-! ## Index writes and the argument -/

/-- In OPEN the job producer index is taken modulo the ring size, and the cancel count is cut to the entries that
are left (R28). -/
def Obligations.JobProducerWriteIsTaken : Prop :=
  ∀ (b : Byte) (s : State), writable 0 s → s.part.isOpen = true →
    let size := s.part.settings.jobSize
    let d := s.part.disp
    takes (.jobProducerIndexWrite b) s 0 b
      { s.part with
        path := hostPort s.part,
        disp := { d with jobProducer := b.toNat % size,
                         cancelCount := if b.toNat % size = d.jobProducer then d.cancelCount
                           else min d.cancelCount (upFrom size d.jobConsumer (b.toNat % size)).toNat } }

/-- In OPEN the slip consumer index and the scan release index are taken modulo their ring sizes when they lie in
ring order from the old index up to the part's producer, and counted as rejected otherwise (R47, R48, R102). -/
def Obligations.ConsumerIndicesAreJudged : Prop :=
  ∀ (b : Byte) (s : State), s.part.isOpen = true →
    let d := s.part.disp
    let c := s.part.scanner
    let rejected : Dispatcher := { d with rejections := min 255 (d.rejections + 1) }
    (writable 1 s →
      let size := s.part.settings.slipSize
      takes (.slipConsumerIndexWrite b) s 1 b
        (if upFrom size d.slipConsumer (b.toNat % size) ≤ upFrom size d.slipConsumer s.part.slips.producer then
          { s.part with path := hostPort s.part, disp := { d with slipConsumer := b.toNat % size } }
        else { s.part with path := hostPort s.part, disp := rejected })) ∧
    (writable 3 s →
      let size := s.part.settings.scanSize
      takes (.scanReleaseIndexWrite b) s 3 b
        (if upFrom size c.releaseCopy (b.toNat % size) ≤ upFrom size c.releaseCopy c.producer then
          { s.part with path := hostPort s.part, scanner := { c with releaseCopy := b.toNat % size } }
        else { s.part with path := hostPort s.part, disp := rejected }))

/-- In OPEN the feed producer index is taken modulo the ring size (R129); in CLOSED and OPEN the command argument
is copied (R5); in CLOSED the four index writes reach RAM and no block (R25). -/
def Obligations.RequestBytesAreCopied : Prop :=
  ∀ (b : Byte) (s : State),
    (writable 2 s → s.part.isOpen = true →
      takes (.feedProducerIndexWrite b) s 2 b
        { s.part with path := hostPort s.part,
                      sender := { s.part.sender with feedProducer := b.toNat % s.part.settings.feedSize } }) ∧
    (writable 4 s → s.part.placed = true →
      takes (.commandArgumentWrite b) s 4 b { s.part with path := { hostPort s.part with argument := b } }) ∧
    (s.part.loader.device = .closed →
      ∀ c ∈ [(Instr.jobProducerIndexWrite b, 0), (.slipConsumerIndexWrite b, 1), (.feedProducerIndexWrite b, 2),
          (.scanReleaseIndexWrite b, 3)],
        writable c.2 s → takes c.1 s c.2 b { s.part with path := hostPort s.part })

/-! ## Commands -/

/-- In CLOSED a CLEAR opens the device (R26), and every other command is echoed as NOT_OPEN and has no other
effect (R25, R42); in OPEN a code 07H..FFH is echoed as UNKNOWN and has no other effect (R42). -/
def Obligations.CommandsThatAreOnlyEchoed : Prop :=
  ∀ s : State, writable 5 s →
    (s.part.loader.device = .closed →
      takes .clear s 5 0x01
        (({ s.part with path := hostPort s.part, loader := { s.part.loader with device := .opened },
                        disp := echoed 0x01 .done s.part.disp } : Part).raise .command) ∧
      ∀ (c : Instr) (code : Byte),
        ((c, code) ∈ [(Instr.abortSend, 0x02#8), (.abortScan, 0x03#8), (.abortAll, 0x04#8), (.spin, 0x05#8),
            (.releaseSpin, 0x06#8)] ∨ (c = .unknownCommand code ∧ 7 ≤ code.toNat)) →
        takes c s 5 code
          (({ s.part with path := hostPort s.part, disp := echoed code .notOpen s.part.disp } : Part).raise
            .command)) ∧
    ∀ code : Byte, s.part.isOpen = true → 7 ≤ code.toNat →
      takes (.unknownCommand code) s 5 code
        (({ s.part with path := hostPort s.part, disp := echoed code .unknown s.part.disp } : Part).raise .command)

/-- In OPEN a CLEAR empties the dispatcher, stops drum, scanner, sender and slip writer, leaves only the status block
guarded, and clears the causes; COMMAND alone is pending after it (R8, R9, R46, R69, R81, R105, R139, R159, R167). TXA
is at 128; the held level, the line clock and the references in use stand (R46, R105, R139). That a STEP pulse active
at the CLEAR completes its tick is the model's choice (log 40), and so are the values of a stopped line timer, the
target speed code with no demand, and the held level and the line clock that stand (logs 47, 49, 51). -/
def Obligations.ClearInOpenStopsEverything : Prop :=
  ∀ s : State, writable 5 s → s.part.isOpen = true →
    takes .clear s 5 0x01
      (({ s.part with
          path := { hostPort s.part with
            guards := { GuardSet.empty with statusBlock := s.part.path.guards.statusBlock },
            guardHits := 0, firstGuarded := 0 },
          disp := echoed 0x01 .done
            { s.part.disp with jobProducer := 0, jobConsumer := 0, slipConsumer := 0, fetch := none,
                               pendingJob := none, cancelCount := 0, scanJob := none, relayJob := none,
                               slipQueue := [], rejections := 0 },
          servo := { s.part.servo with drum := if s.part.servo.drum = .stopped then .stopped else .spindown,
                                       demands := Demands.none, integral := 0, duty := 0, nextDuty := 0,
                                       goodCount := 0, lockCount := 0, outsideCount := 0, faultCount := 0,
                                       lockRunning := false, noLockOffered := false, speedFaultMark := false,
                                       unsettled := none },
          timer := stoppedTimer s.part.timer,
          scanner := { Part.reset.scanner with white := s.part.scanner.white, black := s.part.scanner.black,
                                               step := s.part.scanner.step },
          sender := { Part.reset.sender with held := s.part.sender.held, onTimer := s.part.sender.onTimer },
          slips := { s.part.slips with producer := 0, write := none },
          status := { s.part.status with pending := 0, fresh := 0, attn := false, forced := 0 } } : Part).raise
        .command)

/-- In OPEN a SPIN places the hold at the speed code of the argument copy, and a code above 2 is BAD_ARG (R45). A hold
that leaves the demand in force alone changes no other thing; one that is the first demand on a stopped drum starts it
in SPINUP (R53, R54); one that comes into force on a turning drum changes its target (R53, R57), and a drum that
leaves LOCKED disarms the scanner (R60, R90). While the dispatch of a job that places a demand is due, a change is
left open for it (R33, R52; the model's reading: log 52). The demand in force is the first in list order that is
present and not set aside (R52). -/
def Obligations.SpinPlacesTheHold : Prop :=
  (∀ d : Demands, d.inForce =
    ([d.scanner, d.live, d.carry, d.hold].filterMap fun x =>
      x.bind fun e => if e.aside then none else some e.speed).head?) ∧
  ∀ s : State, writable 5 s → s.part.isOpen = true →
    let v := s.part.servo
    let code := s.part.path.argument.toNat
    let demands : Demands := { v.demands with hold := some ⟨code, false⟩ }
    let done : Servo → Scanner → Part := fun v' c =>
      ({ s.part with path := hostPort s.part, disp := echoed 0x05 .done s.part.disp, servo := v', scanner := c } :
        Part).raise .command
    (3 ≤ code →
      takes .spin s 5 0x05
        (({ s.part with path := hostPort s.part, disp := echoed 0x05 .badArg s.part.disp } : Part).raise .command)) ∧
    (code < 3 → demands.inForce = v.demands.inForce → s.part.awaitsDispatch = false →
      takes .spin s 5 0x05 (done { v with demands := demands } s.part.scanner)) ∧
    (code < 3 → v.demands.inForce = none → v.drum = .stopped →
      takes .spin s 5 0x05
        (done { v with demands := demands, target := code, drum := .spinup, goodCount := 0, quiet := 0,
                       duty := s.part.settings.spinupDuty, nextDuty := s.part.settings.spinupDuty }
          s.part.scanner)) ∧
    (code < 3 → s.part.awaitsDispatch = true →
      takes .spin s 5 0x05
        (done { v with demands := demands,
                       unsettled := if lastFound v = demands.inForce then none else some (lastFound v) }
          s.part.scanner)) ∧
    (code < 3 → demands.inForce ≠ v.demands.inForce → v.drum ≠ .stopped → s.part.awaitsDispatch = false →
      takes .spin s 5 0x05
        (done (retargeted s.part.settings code { v with demands := demands })
          (if v.drum = .locked then { s.part.scanner with armed := false } else s.part.scanner))) ∧
    (code < 3 →
      answers .spin s fun t =>
        t.part.servo.demands = demands ∧ t.part.disp = echoed 0x05 .done s.part.disp ∧
          (v.demands.inForce = none → s.part.awaitsDispatch = false → t.part.servo.target = code))

/-- In OPEN a RELEASE_SPIN withdraws the hold and the carry-over (R45). With another demand in force nothing else
changes; with none left a driven drum enters SPINDOWN (R53), and one that is STOPPED or in SPINDOWN stays there. No
withdrawal of these two, the last of the list, brings another speed into force (R52). While the dispatch of a job that
places a demand is due, a change is left open for it (R33, R52). That, and the target speed code that stands with no
demand, are the model's (logs 49, 52). -/
def Obligations.ReleaseSpinWithdrawsTheHolds : Prop :=
  ∀ s : State, writable 5 s → s.part.isOpen = true →
    let v := s.part.servo
    let demands : Demands := { v.demands with carry := none, hold := none }
    let done : Servo → Scanner → Part := fun v' c =>
      ({ s.part with path := hostPort s.part, disp := echoed 0x06 .done s.part.disp, servo := v', scanner := c } :
        Part).raise .command
    (s.part.awaitsDispatch = true →
      takes .releaseSpin s 5 0x06
        (done { v with demands := demands,
                       unsettled := if lastFound v = demands.inForce then none else some (lastFound v) }
          s.part.scanner)) ∧
    (demands.inForce = v.demands.inForce → s.part.awaitsDispatch = false →
      takes .releaseSpin s 5 0x06 (done { v with demands := demands } s.part.scanner)) ∧
    (v.demands.inForce ≠ none → demands.inForce = none → v.drum ≠ .stopped → v.drum ≠ .spindown →
      s.part.awaitsDispatch = false →
      takes .releaseSpin s 5 0x06
        (done { v with demands := demands, drum := .spindown, duty := 0, nextDuty := 0, goodCount := 0,
                       lockCount := 0, outsideCount := 0, faultCount := 0, lockRunning := false }
          (if v.drum = .locked then { s.part.scanner with armed := false } else s.part.scanner))) ∧
    (demands.inForce = none → v.drum = .stopped ∨ v.drum = .spindown →
      takes .releaseSpin s 5 0x06 (done { v with demands := demands } s.part.scanner)) ∧
    (demands.inForce = v.demands.inForce ∨ demands.inForce = none) ∧
    answers .releaseSpin s fun t =>
      t.part.servo.demands = demands ∧ t.part.disp = echoed 0x06 .done s.part.disp

/-- In OPEN an ABORT_SEND or ABORT_SCAN with no running job on its side is NOTHING; a job that already has a first
cause gets ABORT_LATE in its event list; any other takes ABORTED, with the named side's state and line (R43). Its
sides wind down (R36, R39): the scanner of a STORE or of a LIVE to RETURN (R103, R104), where with HOME active a STORE
ends at once, and the sender of a LIVE from START, PHASING or IMAGE to STOP (R134). The armed mark at RETURN and the
call mark at STOP are the model's (logs 46, 50). -/
def Obligations.AbortsNameTheRunningJob : Prop :=
  ∀ s : State, writable 5 s → s.part.isOpen = true →
    let p := s.part
    let c := p.scanner
    let d := p.sender
    let h : Part := { p with path := hostPort p }
    let echo : Byte → CommandResult → Part → Part := fun code r q =>
      ({ q with disp := echoed code r q.disp } : Part).raise .command
    let caused : Job → Nat → Nat → Tally := fun j state line => { j.tally with detail := some ⟨3, state, line⟩ }
    let aborted : Job → Nat → Nat → Part → Part := fun j state line q =>
      let job : Job := { j with firstCause := some .aborted, tally := caused j state line }
      { q with disp := { p.disp with scanJob := some job } }
    (p.senderSlot = none → takes .abortSend s 5 0x02 (echo 0x02 .nothing h)) ∧
    (p.disp.scanJob = none → takes .abortScan s 5 0x03 (echo 0x03 .nothing h)) ∧
    (∀ slot j cause, p.senderSlot = some slot → p.jobAt slot = some j → j.firstCause = some cause →
      takes .abortSend s 5 0x02 (echo 0x02 .done (h.onTally slot fun t => t.place .abortLate d.line))) ∧
    (∀ j cause, p.disp.scanJob = some j → j.firstCause = some cause →
      takes .abortScan s 5 0x03 (echo 0x03 .done (h.onTally .scan fun t => t.place .abortLate c.line))) ∧
    (∀ slot j, p.senderSlot = some slot → p.jobAt slot = some j → j.firstCause = none →
      answers .abortSend s fun t =>
        causedIn slot j.spec .aborted (some ⟨3, d.state.code, d.line⟩) t.part ∧
          t.part.disp.lastCode = 0x02 ∧ t.part.disp.lastResult = .done) ∧
    ∀ j, p.disp.scanJob = some j → j.firstCause = none →
      (answers .abortScan s fun t =>
        causedIn .scan j.spec .aborted (some ⟨3, c.state.code, c.line⟩) t.part ∧
          t.part.disp.lastCode = 0x03 ∧ t.part.disp.lastResult = .done) ∧
      (j.scannerSide = ⟨true, false⟩ → j.senderSide.active = false → p.pins.home = false →
        takes .abortScan s 5 0x03 (echo 0x03 .done (aborted j c.state.code c.line (returning h)))) ∧
      (j.scannerSide = ⟨true, false⟩ → j.senderSide.active = false → p.pins.home = true → c.state ≠ .back →
        c.state ≠ .idle →
        let back := (returning h).scanner
        let known := back.position = some 0
        answers .abortScan s fun t =>
          t.part.scanner = { back with state := .idle, homing := false, reverse := false, position := some 0,
                                       homeCount := if known then c.homeCount else 0,
                                       stepTicks := if known then c.stepTicks else 0 } ∧
          t.part.path = (returning h).path ∧ t.part.servo.demands.scanner = none ∧
          t.part.disp = echoed 0x03 .done
            { p.disp with scanJob := none, pendingJob := checked p.disp.pendingJob,
                          slipQueue := p.disp.slipQueue ++ [⟨j.spec, .aborted, caused j c.state.code c.line⟩] }) ∧
      (j.spec.kind = .live → p.disp.relayJob = none → j.scannerSide = ⟨true, false⟩ → j.senderSide = ⟨true, false⟩ →
        p.pins.home = false →
        d.state = .start ∨ d.state = .phasing ∨ d.state = .image ∨ d.state = .stop →
        let wound := if d.state = .stop then returning h else toStop (returning h)
        takes .abortSend s 5 0x02 (echo 0x02 .done (aborted j d.state.code d.line wound)) ∧
          takes .abortScan s 5 0x03 (echo 0x03 .done (aborted j c.state.code c.line wound)))

/-- In OPEN an ABORT_ALL with nothing to act on is NOTHING; otherwise it aborts each running job, marks the pending
job to cancel, and sets the cancel count to the entries the ring holds (R44). A pending job that waits at the gate
still waits after the mark, until a job finishes, at this event or later, or a slip leaves the queue (R33, Table
3.4-2; the record's held mark: log 28). A record marked to cancel places no demand, so a change that was left open for
its dispatch takes effect here (R52, R53; log 52), where the target speed code stands with no demand (log 49). -/
def Obligations.AbortAllReachesJobsPendingAndRing : Prop :=
  ∀ s : State, writable 5 s → s.part.isOpen = true →
    let p := s.part
    let d := p.disp
    let idle := d.scanJob = none ∧ d.relayJob = none
    let entries := (upFrom p.settings.jobSize d.jobConsumer d.jobProducer).toNat
    (idle → d.pendingJob = none → d.fetch = none → d.jobProducer = d.jobConsumer →
      takes .abortAll s 5 0x04
        (({ p with path := hostPort p, disp := echoed 0x04 .nothing d } : Part).raise .command)) ∧
    (¬ (idle ∧ d.pendingJob = none ∧ d.fetch = none ∧ d.jobProducer = d.jobConsumer) →
      (idle →
        takes .abortAll s 5 0x04
          ((driven (lastFound p.servo)
            { p with path := hostPort p,
                     disp := echoed 0x04 .done { d with pendingJob := toCancel p,
                                                        cancelCount := entries } }).raise .command)) ∧
      answers .abortAll s fun t =>
        t.part.disp.pendingJob = (if t.part.runningJobs < p.runningJobs then checked (toCancel p) else toCancel p) ∧
        t.part.disp.cancelCount = entries ∧ t.part.disp.lastCode = 0x04 ∧ t.part.disp.lastResult = .done ∧
        ∀ slot j, p.jobAt slot = some j → j.firstCause = none →
          ∃ detail, causedIn slot j.spec .aborted (some detail) t.part)

/-! ## The arbiter -/

/-- A completed transfer moves its byte and its requester goes on (R12, R95, R132, R156, R162, R29); a completed host
transfer releases WAIT and changes nothing else; no host access waits. The last byte of a fetch and of a slip stand in
`LastFetchByteTakesTheRecord` and `LastSlipByteEndsTheWrite`. That a byte is formed and moved at completion, and that
a late pixel goes on arrival, are the model's choices (logs 14, 22). The header bytes of a taken feed line are judged
as they arrive: a line number other than lines fresh − 1 places FEED_ORDER, and the flags carry LAST (R130). A
withdrawn transfer moves its byte and no more (R103, R132). A status byte and a slip byte are those of their tables,
with the codes that RAM shows (R162, R168, Tables 12.2-1 and 12.5-1); an event joins the list of a job while it holds
fewer than four entries, and is counted as dropped otherwise (R37). -/
def Obligations.TransferCompleteMovesTheByte : Prop :=
  codesStand ∧
  (∀ p : Part, (List.range 32).map (statusByte p) = statusImage p) ∧
  (∀ (sl : Slip) (sequence : Byte), sl.bytes sequence = slipImage sl sequence ∧ (slipImage sl sequence).length = 48) ∧
  (∀ (t : Tally) (kind : Cause) (line : Nat), t.place kind line =
    if t.events.length < 4 then { t with events := t.events ++ [⟨kind, line⟩] }
    else { t with dropped := min 255 (t.dropped + 1) }) ∧
  ∀ (s : State) (x : Nat) (b : Byte), s.part.settled = true → s.ram.wf = true → s.part.path.waiting = none →
    let p := s.part
    let m : MemoryPath := { p.path with port := .idle }
    (p.path.port = .host → leaves .transferComplete s { p with path := { m with wait := false } }) ∧
    (p.path.port = .part ⟨.scanner, x, b, false⟩ →
      stores .transferComplete s x b
        { p with path := m,
                 scanner := { p.scanner with openLine := p.scanner.openLine.map fun l =>
                   { l with written := l.written + 1 } } }) ∧
    (∀ h, p.path.port = .part ⟨.lineSender, x, b, false⟩ → p.sender.hand = some h → 4 ≤ h.nextRead →
      leaves .transferComplete s
        { p with path := m,
                 sender := { p.sender with
                   hand := some { h with nextRead := h.nextRead + 1 },
                   fifo := if h.nextSlot ≤ h.nextRead - 4 then p.sender.fifo ++ [s.ram.read x] else p.sender.fifo } }) ∧
    (∀ h j, p.path.port = .part ⟨.lineSender, x, b, false⟩ → p.sender.hand = some h → h.nextRead < 4 →
      h.kind = .taken → h.ring = .feed → p.disp.relayJob = some j →
      let c := s.ram.read x
      let number := h.headerLow.toNat + 256 * c.toNat
      let q : LineInHand → Part := fun h' =>
        { p with path := m, sender := { p.sender with hand := some { h' with nextRead := h.nextRead + 1 } } }
      (h.nextRead = 0 → leaves .transferComplete s (q { h with headerLow := c })) ∧
      (h.nextRead = 1 → number + 1 = j.tally.linesFresh →
        leaves .transferComplete s (q { h with headerLine := number })) ∧
      (h.nextRead = 1 → number + 1 ≠ j.tally.linesFresh →
        leaves .transferComplete s
          { q { h with headerLine := number } with
            disp := { p.disp with relayJob := some { j with
              tally := j.tally.place .feedOrder p.sender.line } } }) ∧
      (h.nextRead = 2 →
        leaves .transferComplete s (q { h with headerFlags := c, last := c.getLsbD 1 })) ∧
      (h.nextRead = 3 → leaves .transferComplete s (q h))) ∧
    (p.path.port = .part ⟨.lineSender, x, b, true⟩ → leaves .transferComplete s { p with path := m }) ∧
    (p.path.port = .part ⟨.scanner, x, b, true⟩ → stores .transferComplete s x b { p with path := m }) ∧
    (∀ i, p.path.port = .part ⟨.statusWriter, x, b, false⟩ → p.status.write = some i →
      stores .transferComplete s x (statusByte { p with path := m } i)
        { p with path := m,
                 status := { p.status with write := if i + 1 < 32 then some (i + 1) else none,
                                           lastByte1 := if i = 1 then p.status.pending else p.status.lastByte1,
                                           fresh := if i = 1 then 0 else p.status.fresh,
                                           attn := if i = 1 then attnLevel p.status.pending p.settings.attentionMask
                                             else p.status.attn } }) ∧
    (∀ w, p.path.port = .part ⟨.slipWriter, x, b, false⟩ → p.slips.write = some w → w.written + 1 < 48 →
      stores .transferComplete s x b
        { p with path := m, slips := { p.slips with write := some { w with written := w.written + 1 } } }) ∧
    (∀ f, p.path.port = .part ⟨.dispatcher, x, b, false⟩ → p.disp.fetch = some f → f.bytes.length + 1 < 16 →
      leaves .transferComplete s
        { p with path := m, disp := { p.disp with fetch := some { f with bytes := f.bytes ++ [s.ram.read x] } } })

/-- The grant at the completion of a part transfer while a host access waits (R12, R13), judged on the state `v`
after the byte has moved: the host at a count of 1 or with nothing urgent; otherwise the line sender with 16
bytes or fewer, or else the scanner with 48 or more, and the count becomes 1. A granted read puts the RAM byte on
D0-D7 (R1); a granted write is forwarded, or dropped by the guard set as it then stands (R2, R7). Either is all that
the same access does at an idle port in that state, its snooping included (R4 to R6), and between two events the state
is one to which the statements of an idle port apply. That a granted host access is served at that moment, and
so before a block write that the completion makes due (R161), is the model's choice (logs 12, 55). -/
def Obligations.CompletionGrantsByTheWaitingCount : Prop :=
  ∀ (s : State) (tr : Transfer) (a : HostAccess) (n : Nat), s.part.path.port = .part tr →
    s.part.path.waiting = some ⟨a, n⟩ →
    let v := finishTransfer tr (freePort s)
    let u := v.part
    let low := u.wants .lineSender = true ∧ u.sender.fifo.length ≤ 16
    let high := u.wants .scanner = true ∧ 48 ≤ u.scanner.fifo.length
    let idle : State := { v with part := { u with path := { u.path with waiting := none } } }
    let dropped : Nat → Prop := fun x => u.placed = true ∧ u.path.guards.covers x = true
    (s.part.settled = true → quiet idle) ∧
    (1 ≤ n ∨ (¬ low ∧ ¬ high) →
      (∀ x : Offset, a = .read x.toNat →
        exec .transferComplete s = exec (.hostRead x) idle ∧
        answers .transferComplete s fun t =>
          t.part.path.dataOut = v.ram.read x.toNat ∧ ∀ y : Nat, t.ram.read y = v.ram.read y) ∧
      ∀ (x : Offset) (b : Byte), a = .write x.toNat b →
        exec .transferComplete s = exec (.hostWrite x b) idle ∧
        (s.ram.wf = true →
          answers .transferComplete s fun t =>
            (dropped x.toNat → ∀ y : Nat, t.ram.read y = v.ram.read y) ∧
            (¬ dropped x.toNat → t.ram.read x.toNat = b ∧ ∀ y : Nat, y ≠ x.toNat → t.ram.read y = v.ram.read y))) ∧
    answers .transferComplete s fun t =>
      (1 ≤ n ∨ (¬ low ∧ ¬ high) → t.part.path.port = .host ∧ t.part.path.waiting = none) ∧
      (n = 0 → low →
        t.part.path.port = .part (u.transferOf .lineSender) ∧ t.part.path.waiting = some ⟨a, 1⟩) ∧
      (n = 0 → ¬ low → high →
        t.part.path.port = .part (u.transferOf .scanner) ∧ t.part.path.waiting = some ⟨a, 1⟩)

/-! ## Dispatcher, slip writer, status writer -/

/-- A fetch starts in OPEN with no pending job and no fetch while the ring holds an entry (R29): the entry at the
consumer index joins the guard set. That the start is a step of its own is the model's (log 3). -/
def Obligations.FetchStartGuardsTheEntry : Prop :=
  ∀ s : State, s.part.settled = true → s.part.isOpen = true → s.part.disp.pendingJob = none →
    s.part.disp.fetch = none → s.part.disp.jobProducer ≠ s.part.disp.jobConsumer →
    leaves .jobFetchStart s
      { s.part with
        path := { s.part.path with guards := { s.part.path.guards with
          jobEntry := some ⟨s.part.settings.jobBase + s.part.disp.jobConsumer * 16, 16⟩ } },
        disp := { s.part.disp with fetch := some ⟨s.part.disp.jobConsumer, []⟩ } }

/-- At the sixteenth byte of a fetch the guard region is removed; the entry is discarded when the ring has become
empty, and otherwise taken: the consumer index advances, the cancel count falls, JOBTAKEN is raised (R30, R44). -/
def Obligations.LastFetchByteTakesTheRecord : Prop :=
  ∀ (s : State) (tr : Transfer) (f : Fetch), s.part.settled = true → s.part.path.waiting = none →
    s.part.path.port = .part tr → tr.who = .dispatcher → s.part.disp.fetch = some f → f.bytes.length = 15 →
    let p := s.part
    let d := p.disp
    let m : MemoryPath := { p.path with port := .idle, guards := { p.path.guards with jobEntry := none } }
    leaves .transferComplete s
      (if d.jobProducer = d.jobConsumer then { p with path := m, disp := { d with fetch := none } }
       else
         ({ p with path := m,
                   disp := { d with fetch := none,
                                    pendingJob := some (takenRecord p.settings (f.bytes ++ [s.ram.read tr.offset])
                                      (decide (0 < d.cancelCount))),
                                    jobConsumer := (d.jobConsumer + 1) % p.settings.jobSize,
                                    cancelCount := d.cancelCount - 1 } } : Part).raise .jobTaken)

/-- A record that starts no side becomes a slip at dispatch: CANCELLED, or BAD_JOB with the offset of its first bad
field (R34, R154); and a LIVE or RELAY with LSN inactive ends in NO_LINE at once (R35, R121). The sender line
number 0 of the latter is the model's reading (log 21). A valid record whose resources are held waits (R32, R33), and
so does one that an ABORT_ALL marked while it waited, until the gate is checked (Table 3.4-2; the held mark: log
28). A change of the demand in force left open for a LIVE that ends in NO_LINE takes effect with its end (R52; log
52), where the target speed code stands with no demand left (log 49). -/
def Obligations.DispatchOfAJobThatStartsNoSide : Prop :=
  ∀ (s : State) (pins : Pins) (r : PendingJob), s.part.settled = true → s.part.isOpen = true →
    s.part.disp.pendingJob = some r → s.part.slipLoad < 4 →
    let p := s.part
    let d : Slip → Dispatcher := fun sl => { p.disp with pendingJob := none, slipQueue := p.disp.slipQueue ++ [sl] }
    (r.toCancel = true → (r.held = false ∨ r.badField ≠ none ∨ p.resourcesFree r.spec.kind = true) →
      leaves (.dispatch pins) s { p with pins := pins, disp := d ⟨r.spec, .cancelled, Tally.zero⟩ }) ∧
    (r.toCancel = false ∨ r.held = true → r.badField = none → p.resourcesFree r.spec.kind = false →
      leaves (.dispatch pins) s { p with pins := pins }) ∧
    (∀ i, r.toCancel = false → r.badField = some i →
      leaves (.dispatch pins) s
        { p with pins := pins, disp := d ⟨r.spec, .badJob, { Tally.zero with detail := some ⟨5, i, 0⟩ }⟩ }) ∧
    (r.toCancel = false → r.badField = none → r.spec.kind = .live ∨ r.spec.kind = .relay →
      p.resourcesFree r.spec.kind = true → pins.lsn = false →
      leaves (.dispatch pins) s
        (driven (lastFound p.servo)
          { p with pins := pins, sender := { p.sender with line := 0 },
                   disp := d ⟨r.spec, .noLine, { Tally.zero with detail := some ⟨2, p.sender.state.code, 0⟩ }⟩ }))

/-- A STORE, or a LIVE on a sensed line, starts its scanner (R35, R85): default references, counts 0, a demand on the
drum and the lock timer; HOMING, or WARMUP with HOME active. The servo finds the demand in force once, against the one
it had found before the last job's end (R33, R52): the same speed leaves drum, I and D as they are, another changes
the target (R53, R57), and a STOPPED drum starts in SPINUP (R54). The step, its input levels as operands, and the
change left open for it are the model's (logs 3, 5, 52). -/
def Obligations.DispatchStartsTheScanner : Prop :=
  ∀ (s : State) (pins : Pins) (r : PendingJob), s.part.settled = true → s.part.isOpen = true →
    s.part.disp.pendingJob = some r → s.part.slipLoad < 4 → r.toCancel = false → r.badField = none →
    s.part.disp.scanJob = none →
    let p := s.part
    let cfg := p.settings
    let live := r.spec.kind = .live
    (r.spec.kind = .store ∨ (live ∧ s.part.disp.relayJob = none ∧ pins.lsn = true)) →
    let c : Scanner :=
      { p.scanner with white := cfg.defaultWhite, black := cfg.defaultBlack, line := 0, stripRun := 0, stall := 0,
                       armed := false, enteredScan := false, scanDone := false, stepsOwed := 0,
                       senderIndex := if live then p.scanner.producer else p.scanner.senderIndex,
                       releaseCopy := if live ∧ ¬ r.spec.keep then p.scanner.producer else p.scanner.releaseCopy }
    let found := lastFound p.servo
    let started : Part :=
      { p with
        pins := pins,
        disp := { p.disp with
          pendingJob := none,
          scanJob := some ⟨r.spec, ⟨true, false⟩, ⟨decide live, false⟩, none,
            { Tally.zero with white := cfg.defaultWhite, black := cfg.defaultBlack }⟩ },
        scanner :=
          if pins.home then
            (if c.position.isSome then { c with state := .warmup, lamp := true, lampCount := 0 }
             else { c with state := .warmup, lamp := true, lampCount := 0, position := some 0, homing := false,
                           reverse := false, homeCount := 0 })
          else { c with state := .homing, position := none, homing := true, reverse := true, homeCount := 0,
                        stepTicks := 0 },
        sender :=
          if live then
            { p.sender with line := 0, stall := 0, lossCount := 0, lossOffered := false, events := 0, stopCount := 0,
                            onTimer := false, callMark := true, timeout := 0,
                            state := if r.spec.waitReady then .calling else .standby }
          else p.sender,
        servo := { p.servo with demands := { p.servo.demands with scanner := some ⟨r.spec.speed, false⟩, carry := none },
                                lockTimer := 0, lockRunning := true, noLockOffered := false } }
    leaves (.dispatch pins) s (driven found started) ∧
    (found = some r.spec.speed →
      (driven found started).servo = { started.servo with
        unsettled := none, lockRunning := decide (p.servo.drum ≠ .locked) }) ∧
    (found ≠ some r.spec.speed → p.servo.drum = .stopped →
      (driven found started).servo = { started.servo with
        unsettled := none, target := r.spec.speed, drum := .spinup, duty := cfg.spinupDuty,
        nextDuty := cfg.spinupDuty, goodCount := 0, quiet := 0 })

/-- A RELAY on a sensed line starts its sender on the line timer with modulo T (R35, R78, R121). The step and the
level of LSN as its operand are the model's (logs 3, 5). -/
def Obligations.DispatchStartsARelay : Prop :=
  ∀ (s : State) (pins : Pins) (r : PendingJob), s.part.settled = true → s.part.isOpen = true →
    s.part.disp.pendingJob = some r → s.part.slipLoad < 4 → r.toCancel = false → r.badField = none →
    r.spec.kind = .relay → s.part.senderSlot = none → pins.lsn = true →
    let p := s.part
    leaves (.dispatch pins) s
      { p with
        pins := pins,
        disp := { p.disp with pendingJob := none,
                              relayJob := some ⟨r.spec, ⟨false, false⟩, ⟨true, false⟩, none, Tally.zero⟩ },
        sender := { p.sender with line := 0, stall := 0, lossCount := 0, lossOffered := false, events := 0,
                                  stopCount := 0, onTimer := true, callMark := false, timeout := 0,
                                  state := if r.spec.waitReady then .calling else .standby },
        timer := { running := some .relay, modulo := Config.nominalPeriod r.spec.speed, count := 0, begun := false,
                   nextStart := 0 } }

/-- A slip write starts in OPEN with a slip queued and a free entry, and its entry joins the guard set (R156). A
status write starts when the block is dirty, the window is shut and the block is urgent or the spacing has
passed: the sequence rises and the marks are cleared (R161, R162). That each start is a step of its own is
the model's (log 3). -/
def Obligations.SlipAndStatusWritesStart : Prop :=
  ∀ s : State, s.part.settled = true →
    let p := s.part
    (p.isOpen = true → p.disp.slipQueue ≠ [] → p.slips.write = none →
      (p.slips.producer + 1) % p.settings.slipSize ≠ p.disp.slipConsumer →
      leaves .slipWriteStart s
        { p with
          path := { p.path with guards := { p.path.guards with
            slipEntry := some ⟨p.settings.slipBase + p.slips.producer * 48, 48⟩ } },
          slips := { p.slips with write := some ⟨p.slips.producer, 0⟩ } }) ∧
    (p.placed = true → p.status.dirty = true → p.status.write = none → p.status.window = none →
      (p.status.urgent = true ∨ p.status.spacing = none ∨
        ∃ n, p.status.spacing = some n ∧ p.settings.statusSpacing * 125 ≤ n) →
      leaves .statusWriteStart s
        { p with status := { p.status with sequence := p.status.sequence + 1, dirty := false, urgent := false,
                                           spacing := some 0, write := some 0 } })

/-- At the forty-eighth byte of a slip its entry leaves the guard set, the producer index and the sequence advance,
the slip leaves the queue, and SLIP is raised (R157). The byte reaches RAM at completion
(the model's choice: log 14). -/
def Obligations.LastSlipByteEndsTheWrite : Prop :=
  ∀ (s : State) (tr : Transfer) (w : SlipWrite), s.part.settled = true → s.ram.wf = true →
    s.part.path.waiting = none → s.part.path.port = .part tr → tr.who = .slipWriter →
    s.part.slips.write = some w → w.written = 47 →
    let p := s.part
    stores .transferComplete s tr.offset tr.byte
      (({ p with
          path := { p.path with port := .idle, guards := { p.path.guards with slipEntry := none } },
          slips := { producer := (p.slips.producer + 1) % p.settings.slipSize, sequence := p.slips.sequence + 1,
                     write := none },
          disp := { p.disp with slipQueue := p.disp.slipQueue.tail, pendingJob := checked p.disp.pendingJob } } :
        Part).raise .slip)

/-! ## Job timer and timeouts -/

/-- A job-timer expiry adds 1 to every count kept on it that runs (R65, R66, R82, R86, R88, R122, R135, R137), and
the first one after RESET begins the read of the image (R18). That a count reached is
acted on in a step of its own is the model's (log 4). -/
def Obligations.JobTimerExpiryCounts : Prop :=
  ∀ (s : State) (pins : Pins), s.part.resetActive = false →
    let p := s.part
    let begins := p.loader.device = .loading ∧ p.loader.reading = false
    let v := p.servo
    let c := p.scanner
    let d := p.sender
    endsIn (.jobTimerExpiry pins) s
      { p with
        pins := pins,
        clock := { p.clock with jobTicks := 0 },
        loader := if begins then { p.loader with reading := true, cfck := false, sent := [0x03, 0x00], shifted := 0,
                                                 image := [], sum := 0 }
          else p.loader,
        servo := { v with quiet := if v.drum = .stopped then v.quiet else v.quiet + 1,
                          lockTimer := if v.lockRunning = true then v.lockTimer + 1 else v.lockTimer },
        scanner := { c with homeCount := if c.homing = true then c.homeCount + 1 else c.homeCount,
                            lampCount := if c.state = .warmup then c.lampCount + 1 else c.lampCount },
        sender := { d with timeout := if d.state = .calling ∨ d.state = .awaitReceipt then d.timeout + 1 else d.timeout,
                           lossCount := if d.state = .idle then d.lossCount
                             else if pins.lsn = true then 0 else min 10 (d.lossCount + 1),
                           lossOffered := if pins.lsn = true then false else d.lossOffered } }

/-- When the lamp has settled the scanner waits for lock (R88), and a LIVE arms at once on a LOCKED drum (R90). The
step is guarded by its count (log 4). -/
def Obligations.LampSettleEndsWarmup : Prop :=
  ∀ s : State, s.part.settled = true → s.part.scanner.state = .warmup →
    s.part.derived.lampCount ≤ s.part.scanner.lampCount →
    leaves .lampSettleExpiry s
      { s.part with scanner := { s.part.scanner with
          state := .waitLock,
          armed := if s.part.scanLive = true ∧ s.part.servo.drum = .locked then true else s.part.scanner.armed } }

/-- The end of a homing of a STORE. In HOMING, HOME ends it in WARMUP (R87); the home timeout ends it with
HOME_FAULT (R86, R87). In RETURN, HOME ends it at position 0 and the timeout with HOME_LATE in the event list
(R104); either way the job's slip is queued (R41, R148). Its demand is withdrawn, and HOLD_SPIN carries the speed on
after a completion (R41); the servo finds the demand in force once, at this event, or at the dispatch of the next job
where that is due (R33, R52, R53). The timeout step is guarded by its count, and the armed mark at IDLE, the target
speed code that stands with no demand left, and the change left open are the model's (logs 4, 49, 50, 52). -/
def Obligations.HomingEndsFoundOrFailed : Prop :=
  ∀ s : State, s.part.settled = true → s.part.placed = true → s.part.scanner.homing = true →
    let p := s.part
    let pins : Pins := { p.pins with home := true }
    let c := p.scanner
    let rest : Option Nat → Scanner := fun position =>
      { c with state := .idle, homing := false, armed := false, reverse := false, position := position,
               lamp := if c.state = .homing then false else c.lamp, fifo := c.fifo }
    (c.state = .homing →
      leaves .homeActive s
        { p with pins := pins, scanner := { c with state := .warmup, lamp := true, lampCount := 0,
                                                   position := some 0, homing := false, reverse := false } }) ∧
    ∀ j, p.disp.scanJob = some j → j.spec.kind = .store → j.scannerSide = ⟨true, false⟩ →
      j.senderSide.active = false → c.openLine = none →
      let carried : Cause → Option Demand := fun cause =>
        if j.spec.holdSpin = true ∧ cause.isCompletion = true then some ⟨j.spec.speed, false⟩
        else p.servo.demands.carry
      let servo : Cause → Servo := fun cause =>
        { p.servo with demands := { p.servo.demands with scanner := none, carry := carried cause },
                       lockRunning := false, speedFaultMark := false }
      let ended : Part → Slip → Option Nat → Prop := fun q sl position =>
        let v := servo sl.result
        let found := p.servo.demands.inForce
        q.disp = { p.disp with scanJob := none, slipQueue := p.disp.slipQueue ++ [sl],
                               pendingJob := checked p.disp.pendingJob } ∧
          q.scanner = rest position ∧
          q.servo =
            if p.servo.drum.driven = true ∧ q.awaitsDispatch = true then
              { v with unsettled := if found = v.demands.inForce then none else some found }
            else (driven found { p with servo := v }).servo
      (c.state = .homing → j.firstCause = none → p.derived.homeCount ≤ c.homeCount →
        answers .homeTimeout s fun t =>
          ended t.part ⟨j.spec, .homeFault, { j.tally with detail := some ⟨1, 1, c.line⟩, notHome := true }⟩ none) ∧
      (c.state = .back →
        answers .homeActive s fun t =>
          ended t.part ⟨j.spec, j.firstCause.getD .stored, j.tally⟩ (some 0)) ∧
      (c.state = .back → p.derived.homeCount ≤ c.homeCount →
        answers .homeTimeout s fun t =>
          ended t.part
            ⟨j.spec, j.firstCause.getD .stored, { j.tally.place .homeLate c.line with notHome := true }⟩ none)

/-- The lock timeout stops the lock timer and is offered once (R65): NO_LOCK becomes the first cause of the job that
holds the scanner, or joins the events of one that has a first cause. The step is guarded by its count, and NO_LOCK
offered once is a mark of the model's (logs 4, 28). -/
def Obligations.LockTimeoutOffersNoLock : Prop :=
  ∀ s : State, s.part.settled = true → s.part.servo.lockRunning = true →
    s.part.derived.lockCount ≤ s.part.servo.lockTimer →
    let p := s.part
    let v : Servo := { p.servo with lockRunning := false, noLockOffered := true }
    (p.disp.scanJob = none → leaves .lockTimeout s { p with servo := v }) ∧
    ∀ j, p.disp.scanJob = some j →
      (j.firstCause = none →
        answers .lockTimeout s fun t =>
          t.part.servo.lockRunning = false ∧ t.part.servo.noLockOffered = true ∧
          causedIn .scan j.spec .noLock (some ⟨1, p.scanner.state.code, p.scanner.line⟩) t.part) ∧
      (j.firstCause ≠ none → j.spec.kind = .store →
        leaves .lockTimeout s
          (({ p with servo := v } : Part).onTally .scan fun t => t.place .noLock p.scanner.line))

/-- A stall (R66, R67): a driven drum that has given no capture for the stall time stops, every demand of a job is set
aside and the hold withdrawn, DRUM is raised, and a drum's job gets DRUM_STALL. In SPINDOWN the same time ends in
STOPPED (R58). Entry to STOPPED clears reference and period (R51) and the slot schedule (R76). The step is guarded by
its count, and the wrap count at STOPPED and the target speed code after it are the model's (logs 4, 42, 49). A LIVE
sender in a tone-on state on the drum is switched to the line timer, which starts with the modulo of its speed,
whether the cause becomes the first or goes to the event list (R40, R80); as the first cause it sends START, PHASING
and IMAGE to STOP (R39), where the call mark falls by the model's choice (log 46). -/
def Obligations.StallTimeStopsTheDrum : Prop :=
  ∀ s : State, s.part.settled = true → s.part.derived.stallCount ≤ s.part.servo.quiet →
    let p := s.part
    let v := p.servo
    (v.drum = .spindown →
      leaves .stallTimeExpiry s
        { p with servo := { v with drum := .stopped, reference := none, wraps := 0, period := 0 },
                 angle := { p.angle with schedule := none } }) ∧
    (v.drum = .spinup ∨ v.drum = .locking ∨ (v.drum = .locked ∧ demandSpeed v.demands.scanner = none) →
      p.drumHasJob = false →
      leaves .stallTimeExpiry s
        (({ p with
            servo := { v with drum := .stopped, reference := none, wraps := 0, period := 0, duty := 0, nextDuty := 0,
                              goodCount := 0, lockCount := 0, outsideCount := 0, faultCount := 0,
                              lockRunning := false, unsettled := none,
                              demands := ⟨setAside v.demands.scanner, setAside v.demands.live,
                                setAside v.demands.carry, none⟩ },
            scanner := if v.drum = .locked then { p.scanner with armed := false } else p.scanner,
            angle := { p.angle with schedule := none } } : Part).raise .drum)) ∧
    (v.drum ≠ .spindown → v.drum ≠ .stopped → ∀ j, p.disp.scanJob = some j → p.drumHasJob = true →
      j.firstCause = none → (p.disp.relayJob = none ∨ j.senderSide.active = false) →
      answers .stallTimeExpiry s fun t =>
        t.part.servo.drum = .stopped ∧ t.part.servo.duty = 0 ∧ t.part.servo.period = 0 ∧
        t.part.angle.schedule = none ∧ t.part.status.pending &&& Attention.drum.bit ≠ 0 ∧
        t.part.servo.demands.inForce = none ∧
        causedIn .scan j.spec .drumStall (some ⟨1, p.scanner.state.code, p.scanner.line⟩) t.part) ∧
    (v.drum ≠ .spindown → v.drum ≠ .stopped → ∀ j, p.disp.scanJob = some j → p.drumHasJob = true →
      j.spec.kind = .live → p.disp.relayJob = none → j.senderSide = ⟨true, false⟩ → p.sender.onTimer = false →
      p.sender.state = .start ∨ p.sender.state = .phasing ∨ p.sender.state = .image ∨ p.sender.state = .stop →
      let stops := j.firstCause = none ∧ p.sender.state ≠ .stop
      answers .stallTimeExpiry s fun t =>
        t.part.timer = ⟨some .live, Config.nominalPeriod j.spec.speed, 0, false, 0⟩ ∧
        t.part.sender = { (if stops then toStop p else p).sender with onTimer := true } ∧
        if j.firstCause = none then
          causedIn .scan j.spec .drumStall (some ⟨1, p.scanner.state.code, p.scanner.line⟩) t.part
        else
          t.part.disp.scanJob = some { j with tally := j.tally.place .drumStall p.scanner.line })

/-- The sender's three timeouts at a RELAY: no answer within the ready timeout (R122), no receipt within the receipt
timeout (R135), and ten expiries without LSN (R137). The sender releases a line in hand (R127) and reaches IDLE
(R138), the line timer stops (R81) and the job ends with its slip (R41). Each step is guarded by its count (log 4),
the offer of a loss is a mark of the model's (log 28), and so are the values of a stopped timeout and of a stopped
line timer, and the line clock in IDLE (logs 43, 47, 51). -/
def Obligations.SenderTimeoutsEndARelay : Prop :=
  ∀ (s : State) (j : Job), s.part.settled = true → relaySends s.part j →
    let p := s.part
    let d := p.sender
    let ended : Cause → Tally → Part := fun cause tally =>
      let r := released p
      { r with sender := idleSender r.sender, timer := stoppedTimer p.timer,
               disp := { p.disp with relayJob := none, slipQueue := p.disp.slipQueue ++ [⟨j.spec, cause, tally⟩],
                                     pendingJob := checked p.disp.pendingJob } }
    (d.state = .calling → p.derived.readyCount ≤ d.timeout →
      leaves .readyTimeout s (ended .noAnswer { j.tally with detail := some ⟨4, 1, d.line⟩ })) ∧
    (d.state = .awaitReceipt → p.derived.receiptCount ≤ d.timeout →
      leaves .receiptTimeout s (ended .sentUnconfirmed j.tally)) ∧
    (d.state ≠ .idle → d.state ≠ .stop → 10 ≤ d.lossCount → d.lossOffered = false →
      leaves .lineLost s (ended .lineLost { j.tally with detail := some ⟨2, d.state.code, d.line⟩ }))

/-! ## Drum -/

/-- The tick counter passes 65535 (R51, R70), and a PWM period takes the next duty (R62). The PWM counter runs from 0
to 1023 and a period starts at its return to 0; MDRV is high for the first counts of the active duty, at 1024 for
all of them (R62). That a step on an empty queue is one count is the model's (log 1). -/
def Obligations.TickWrapAndPwmPeriod : Prop :=
  (∀ p : Part, p.clock.pwmCount < 1024 →
    let full : Part := { p with servo := { p.servo with activeDuty := 1024 } }
    (passBeat p).clock.pwmCount = (p.clock.pwmCount + 1) % 1024 ∧
    (passBeat p).servo.activeDuty = (if p.clock.pwmCount = 1023 then p.servo.nextDuty else p.servo.activeDuty) ∧
    (p.mdrv = true ↔ p.clock.pwmCount < p.servo.activeDuty) ∧ full.mdrv = true) ∧
  ∀ s : State, s.part.resetActive = false →
    endsIn .tickCounterWrap s
      { s.part with
        clock := { s.part.clock with tick := 0 },
        servo := { s.part.servo with wraps := if s.part.servo.reference.isSome then min 255 (s.part.servo.wraps + 1)
          else s.part.servo.wraps } } ∧
    endsIn .pwmPeriodStart s
      { s.part with clock := { s.part.clock with pwmCount := 0 },
                    servo := { s.part.servo with activeDuty := s.part.servo.nextDuty } }

/-- A capture with no job running (R50, R51, R71, R76): the first is the reference alone; a later one measures tick +
65 536 × wraps − reference, builds the schedule, and runs the work of the drum state: none in SPINDOWN (R58); the good
spin-up count and the entry to LOCKING (R54); the PI step with the lock count, and the entry to LOCKED with DRUM under
a hold (R55, R60, R61); the PI step with the outside count and the fault count, and the return to LOCKING (R56, R64,
R65; the timer at that return, and a fault count that starts again with no job: log 27). A STOPPED drum captures
nothing. With a STORE in SCAN on a LOCKED drum the capture judges its speed (R63), counts the line event, commits a
whole line and claims the next slot, or damages a cut one and claims its slot again (R73, R91, R96 to R98; log 25).
That a revolution counts as whole by the start of slot S + P, measured on the larger of the elapsed count and the
period, is the model's choice (log 35). The tick counter takes the operand's value, and a value below the held one
passes the counter's wrap, which the wrap count takes first (R51; log 6); the slot numbers after a reference capture
and the demand that a capture is judged by are the model's (logs 42, 45). -/
def Obligations.IndexCaptureMeasuresThePeriod : Prop :=
  (∀ (s : State) (tick : Tick) (pins : Pins) (servoFirst : Bool), s.part.settled = true →
    s.part.resetActive = false → s.part.placed = true → s.part.disp.scanJob = none → s.part.senderSlot = none →
    s.part.sender.state ≠ .image →
    let p := s.part
    let v := p.servo
    let wraps := if tick.toNat < p.clock.tick.toNat ∧ v.reference.isSome = true then min 255 (v.wraps + 1) else v.wraps
    let cfg := p.settings
    let cmd := Instr.indexCapture tick pins servoFirst
    let q : Servo → Option Nat → Part := fun v' schedule =>
      { p with pins := pins, clock := { p.clock with tick := tick }, servo := v', angle := ⟨schedule, 0, 0, 0⟩,
               scanner := { p.scanner with convSet := none } }
    let taken : Servo := { v with reference := some tick, wraps := 0, quiet := 0 }
    (v.drum = .stopped →
      leaves cmd s { p with pins := pins, clock := { p.clock with tick := tick }, servo := { v with wraps := wraps } }) ∧
    (v.drum ≠ .stopped → v.reference = none → leaves cmd s (q taken none)) ∧
    ∀ r, v.reference = some r → (tick ≠ r ∨ wraps ≠ 0) →
      let period := tick.toNat + 65536 * wraps - r.toNat
      let limit := Config.nominalPeriod v.target + Config.nominalPeriod v.target / 4
      let held : Servo := { taken with period := period }
      let l := piStep cfg v.target v.integral period
      let err := l.error.natAbs
      let looped : Servo := { held with integral := l.integral, duty := l.duty, nextDuty := l.duty }
      let faults := if cfg.faultLimit < err then (if 4 ≤ v.faultCount + 1 then 0 else v.faultCount + 1) else 0
      let base := cfg.baseDuty v.target
      let timed := (demandSpeed v.demands.scanner).isSome = true ∧ p.scanner.enteredScan = false ∧
        v.noLockOffered = false
      (v.drum = .spindown → leaves cmd s (q held (some period))) ∧
      (v.drum = .spinup → limit < period → leaves cmd s (q { held with goodCount := 0 } (some period))) ∧
      (v.drum = .spinup → period ≤ limit → v.goodCount = 0 →
        leaves cmd s (q { held with goodCount := 1 } (some period))) ∧
      (v.drum = .spinup → period ≤ limit → 1 ≤ v.goodCount →
        leaves cmd s
          (q { held with drum := .locking, goodCount := 2, integral := 0, duty := base, nextDuty := base,
                         lockCount := 0 } (some period))) ∧
      (v.drum = .locking → cfg.lockWindow < err → leaves cmd s (q { looped with lockCount := 0 } (some period))) ∧
      (v.drum = .locking → err ≤ cfg.lockWindow → v.lockCount < 2 →
        leaves cmd s (q { looped with lockCount := v.lockCount + 1 } (some period))) ∧
      (v.drum = .locking → err ≤ cfg.lockWindow → 2 ≤ v.lockCount →
        let locked := q { looped with drum := .locked, lockCount := 3, outsideCount := 0, faultCount := 0,
                                      lockRunning := false } (some period)
        leaves cmd s
          (if demandSpeed v.demands.scanner = none ∧ demandSpeed v.demands.live = none ∧ v.demands.inForce ≠ none
            then locked.raise .drum else locked)) ∧
      (v.drum = .locked → (err ≤ cfg.lockWindow ∨ v.outsideCount < 7) →
        leaves cmd s
          (q { looped with outsideCount := if cfg.lockWindow < err then v.outsideCount + 1 else 0,
                           faultCount := faults } (some period))) ∧
      (v.drum = .locked → cfg.lockWindow < err → 7 ≤ v.outsideCount →
        let locking := q { looped with drum := .locking, outsideCount := 8, lockCount := 0, faultCount := faults,
                                       lockTimer := if timed then 0 else v.lockTimer,
                                       lockRunning := if timed then true else v.lockRunning } (some period)
        leaves cmd s { locking with scanner := { locking.scanner with armed := false } })) ∧
  ∀ (s : State) (tick : Tick) (pins : Pins) (servoFirst : Bool) (j : Job) (l : OpenLine) (r : Tick),
    s.part.settled = true → s.part.resetActive = false → s.part.placed = true → s.part.disp.scanJob = some j →
    j.spec.kind = .store → s.part.scanner.state = .scan → s.part.scanner.openLine = some l →
    s.part.scanner.fifo = [] → s.part.servo.drum = .locked → s.part.servo.reference = some r →
    (s.part.sender.onTimer = true ∨ (s.part.senderSlot = none ∧ s.part.sender.state ≠ .image)) →
    pins.travelEnd = false →
    let p := s.part
    let v := p.servo
    let wraps := if tick.toNat < p.clock.tick.toNat then min 255 (v.wraps + 1) else v.wraps
    let c := p.scanner
    let cfg := p.settings
    let cmd := Instr.indexCapture tick pins servoFirst
    let period := tick.toNat + 65536 * wraps - r.toNat
    let loop := piStep cfg v.target v.integral period
    let err := loop.error.natAbs
    let gap := cfg.strip + cfg.image
    let reached := gap < p.angle.nextStart ∨
      p.angle.schedule.getD 0 * gap / p.derived.slots ≤ max p.angle.elapsed period
    let judged : Tally := { j.tally with
      lineEvents := min 65535 (j.tally.lineEvents + 1),
      worstError := if v.demands.ofJob then max j.tally.worstError err else j.tally.worstError,
      excursions := if v.demands.ofJob = true ∧ cfg.excursion < err then min 255 (j.tally.excursions + 1)
        else j.tally.excursions }
    let slot : Nat → Option Region := fun i => some ⟨cfg.scanBase + i * (4 + cfg.image), 4 + cfg.image⟩
    let next := (c.producer + 1) % cfg.scanSize
    let moved := c.position.map (· + cfg.stepsPerLine)
    (tick ≠ r ∨ wraps ≠ 0) → err ≤ cfg.lockWindow → err ≤ cfg.faultLimit → p.angle.schedule.isSome = true →
    (reached → l.damaged = false → l.written = 4 + cfg.image → c.line + 1 < j.spec.lines →
      moved.getD 0 < cfg.positionLimit → (next + 1) % cfg.scanSize ≠ c.releaseCopy →
      answers cmd s fun t =>
        t.part.scanner = { c with openLine := some (freshLine next), convSet := none, producer := next,
                                  line := c.line + 1, stall := 0, position := moved,
                                  stepsOwed := c.stepsOwed + cfg.stepsPerLine, stepTicks := 0 } ∧
        t.part.path.guards.scanFill = slot next ∧ t.part.status.pending &&& Attention.scanLine.bit ≠ 0 ∧
        t.part.disp.scanJob = some { j with tally := { judged with
          linesFresh := min 4095 (j.tally.linesFresh + 1),
          noiseHeld := min 65535 (j.tally.noiseHeld + l.noise) } }) ∧
    (¬ reached → min 63 (c.stall + 1) < cfg.stallLimit → c.line < j.spec.lines →
      c.position.getD 0 < cfg.positionLimit → next ≠ c.releaseCopy →
      answers cmd s fun t =>
        t.part.scanner = { c with openLine := some (freshLine c.producer), convSet := none,
                                  stall := min 63 (c.stall + 1) } ∧
        t.part.path.guards.scanFill = slot c.producer ∧
        t.part.disp.scanJob = some { j with tally := { judged with damaged := min 255 (j.tally.damaged + 1) } })

/-- What a drum line event does at the scanner and at a sender on the drum. A STORE in WAIT_LOCK enters SCAN after
LOCKED was reported (R89): it counts the event, claims the slot at the producer index and guards it (R91, R101), when
the slot is free and the carriage is not at the end of its travel. A LIVE sender in STANDBY waits for an armed scanner
and enters START with its demand (R123, R124). From line event s + p − 2 it calls an armed scanner into SCAN (R90,
R126). In IMAGE it releases its line and takes the oldest eligible one, repeats the last or sends white (R101, R127),
and enters STOP at its last line or when the scanner is done and nothing is left (R128, R131, R134); a call not taken
by the stall limit offers SCAN_STALL (R126). While it takes a line, the scanner commits the next and claims one more
(R96, R97, R101). That the call comes before the sender's own work, that the mark falls at STOP and the armed mark at
SCAN, how steps are owed, and the fields of a line in hand whose header is not read, with the slot and the next offset
of a white one, are the model's (logs 25, 41, 46, 50, 54). -/
def Obligations.StoreEntersScanAtALineEvent : Prop :=
  (∀ (p : Part) (whole : Bool) (j : Job), p.disp.scanJob = some j → j.spec.kind = .store → p.disp.relayJob = none →
    p.sender.state ≠ .image → p.scanner.state = .waitLock → p.pins.travelEnd = false →
    p.scanner.position.getD 0 < p.settings.positionLimit →
    (p.scanner.producer + 1) % p.settings.scanSize ≠ p.scanner.releaseCopy →
    drumLineEvent whole true p =
      { p with
        disp := { p.disp with scanJob := some { j with tally := { j.tally with
          lineEvents := min 65535 (j.tally.lineEvents + 1) } } },
        scanner := { p.scanner with state := .scan, armed := false, enteredScan := true,
                                    openLine := some (freshLine p.scanner.producer) },
        path := { p.path with guards := { p.path.guards with
          scanFill := some ⟨p.settings.scanBase + p.scanner.producer * (4 + p.settings.image),
            4 + p.settings.image⟩ } } }) ∧
  ∀ (p : Part) (whole locked : Bool) (j : Job), p.disp.scanJob = some j → j.spec.kind = .live →
    p.disp.relayJob = none → p.sender.onTimer = false →
    let cfg := p.settings
    let c := p.scanner
    let d := p.sender
    let n := d.events + 1
    let start := j.spec.startRevs
    let image := start + j.spec.phasingRevs
    let counted : Tally := { j.tally with lineEvents := min 65535 (j.tally.lineEvents + 1) }
    let phased : Tally := { counted with phasingSent := min 31 (j.tally.phasingSent + 1) }
    let becomes : Part → Tally → Prop := fun q tally =>
      drumLineEvent whole locked p = { q with disp := { p.disp with scanJob := some { j with tally := tally } } }
    let slot : Nat → Option Region := fun i => some ⟨cfg.scanBase + i * (4 + cfg.image), 4 + cfg.image⟩
    let next := (c.producer + 1) % cfg.scanSize
    let r := released p
    let e := r.sender
    let oldest := r.scanner.senderIndex
    let fresh := j.tally.linesFresh
    let uncalled := d.callMark = false ∨ c.armed = false
    let taking : Sender := { e with state := .image, events := n, fifo := [], held := 255, stall := 0, line := fresh,
                                    hand := some (newHand .scan oldest .taken 0) }
    let taken : Tally := { counted with linesFresh := min 4095 (fresh + 1) }
    (c.state ≠ .scan → d.state = .standby → c.armed = false → drumLineEvent whole locked p = p) ∧
    (c.state ≠ .scan → d.state = .standby → c.armed = true → (2 < image ∨ d.callMark = false) →
      becomes
        { p with sender := { d with state := .start, events := 0, increment := p.derived.whiteIncrement },
                 servo := { p.servo with demands := { p.servo.demands with live := some ⟨j.spec.speed, false⟩ } } }
        counted) ∧
    (c.state = .waitLock → c.armed = true → d.callMark = true → d.state = .start ∨ d.state = .phasing →
      image ≤ n + 2 → n < image → p.pins.travelEnd = false → c.position.getD 0 < cfg.positionLimit →
      next ≠ c.senderIndex → (j.spec.keep = true → next ≠ c.releaseCopy) →
      let phasing := d.state = .phasing ∨ start ≤ n
      becomes
        { p with scanner := { c with state := .scan, armed := false, enteredScan := true,
                                     openLine := some (freshLine c.producer) },
                 path := { p.path with guards := { p.path.guards with scanFill := slot c.producer } },
                 sender := { d with events := n, callMark := false, state := if phasing then .phasing else .start } }
        (if phasing then phased else counted)) ∧
    (c.state ≠ .scan → uncalled → ((d.state = .phasing ∧ image ≤ n ∧ d.hand = none) ∨ d.state = .image) →
      let ended := j.spec.lines ≤ fresh ∨ lastInHand d ∨ (c.scanDone = true ∧ oldest = c.producer)
      let back := (oldest + cfg.scanSize - 1) % cfg.scanSize
      let stall := min 63 (d.stall + 1)
      let repeats : LineInHand → Sender := fun h =>
        { e with state := .image, events := n, fifo := [], held := 255, stall := stall, hand := some h }
      let repeated : Tally := { counted with linesRepeated := min 65535 (j.tally.linesRepeated + 1) }
      (ended →
        becomes
          { r with sender := { e with state := .stop, events := n, increment := p.derived.blackIncrement,
                                      stopCount := 0, callMark := false, fifo := [] } }
          counted) ∧
      (¬ ended → oldest ≠ c.producer →
        becomes
          { r with sender := taking, path := { r.path with guards := { r.path.guards with sending := slot oldest } } }
          taken) ∧
      (¬ ended → oldest = c.producer → (stall < cfg.stallLimit ∨ d.callMark = false) →
        becomes
          (if fresh = 0 then { r with sender := repeats (newHand .scan back .white 0) }
           else { r with sender := repeats (newHand .scan back .repeated 4),
                         path := { r.path with guards := { r.path.guards with sending := slot back } } })
          repeated) ∧
      (¬ ended → oldest = c.producer → cfg.stallLimit ≤ stall → d.callMark = true → j.firstCause = none →
        j.senderSide = ⟨true, false⟩ →
        let t := drumLineEvent whole locked p
        t.sender.state = .stop ∧ t.sender.hand = none ∧
          causedIn .scan j.spec .scanStall (some ⟨1, c.state.code, c.line⟩) t)) ∧
    (c.state = .scan → d.state = .image → uncalled → whole = true → p.pins.travelEnd = false →
      ∀ l, c.openLine = some l → l.damaged = false → l.written = 4 + cfg.image → c.line + 1 < j.spec.lines →
      let moved := c.position.map (· + cfg.stepsPerLine)
      moved.getD 0 < cfg.positionLimit → ¬ (j.spec.lines ≤ fresh ∨ lastInHand d) → oldest ≠ c.producer →
      (next + 1) % cfg.scanSize ≠ oldest → (j.spec.keep = true → (next + 1) % cfg.scanSize ≠ c.releaseCopy) →
      let q : Part :=
        { r with
          sender := taking,
          scanner := { c with senderIndex := oldest, openLine := some (freshLine next), producer := next,
                              line := c.line + 1, stall := 0, position := moved,
                              stepsOwed := c.stepsOwed + cfg.stepsPerLine, stepTicks := 0,
                              releaseCopy := if j.spec.keep = true then c.releaseCopy else next },
          path := { r.path with guards := { r.path.guards with sending := slot oldest, scanFill := slot next } } }
      becomes (if j.spec.keep = true then q.raise .scanLine else q)
        { taken with noiseHeld := min 65535 (j.tally.noiseHeld + l.noise),
                     keepUsed := j.tally.keepUsed || j.spec.keep })

/-- The close of a line whose every byte has been written in a whole revolution commits it (R96, R97, R100): the
producer index and the line number advance, a carriage with lines to go owes its steps, and a STORE raises
SCANLINE. Any other line of a STORE (of a revolution cut short, damaged, or with bytes still to write) is damaged and
counted, its slot leaves the guard set and its bytes are dropped (R96, R98). At the stall limit SCAN_STALL is offered
too (R98): it becomes the first cause and the scanner winds down to RETURN, HOME inactive (R36, R39, R103), or it
joins the event list (R37). That the steps are added to those still to issue, that the step spacing starts again, and
that the armed mark falls at RETURN, is the model's (logs 25, 50). -/
def Obligations.LineCloseCommitsOrDamages : Prop :=
  ∀ (p : Part) (j : Job) (l : OpenLine), p.disp.scanJob = some j → j.spec.kind = .store →
    p.scanner.openLine = some l →
    let c := p.scanner
    let steps := if c.line + 1 < j.spec.lines then p.settings.stepsPerLine else 0
    (l.damaged = false → l.written = 4 + p.settings.image →
      let q := closeLine true j p
      q.scanner = { c with openLine := none, producer := (c.producer + 1) % p.settings.scanSize, line := c.line + 1,
                           stall := 0, position := c.position.map (· + steps), stepsOwed := c.stepsOwed + steps,
                           stepTicks := 0 } ∧
      q.path = { p.path with guards := { p.path.guards with scanFill := none } } ∧
      q.disp.scanJob = some { j with tally := { j.tally with
        linesFresh := min 4095 (j.tally.linesFresh + 1),
        noiseHeld := min 65535 (j.tally.noiseHeld + l.noise) } } ∧
      q.status.pending = p.status.pending ||| Attention.scanLine.bit ∧
      sameBut [.scanner, .path, .disp, .status] p q) ∧
    ∀ whole : Bool, whole = false ∨ l.damaged = true ∨ l.written ≠ 4 + p.settings.image →
      let stall := min 63 (c.stall + 1)
      let m := withdrawn .scanner p.path
      let tally : Tally := { j.tally with damaged := min 255 (j.tally.damaged + 1) }
      let hurt : Option Cause → Tally → Part := fun cause tally' =>
        { p with scanner := { c with openLine := none, fifo := [], stall := stall },
                 path := { m with guards := { m.guards with scanFill := none } },
                 disp := { p.disp with scanJob := some { j with firstCause := cause, tally := tally' } } }
      (stall < p.settings.stallLimit → closeLine whole j p = hurt j.firstCause tally) ∧
      (p.settings.stallLimit ≤ stall → j.firstCause ≠ none →
        closeLine whole j p = hurt j.firstCause (tally.place .scanStall c.line)) ∧
      (p.settings.stallLimit ≤ stall → j.firstCause = none → j.scannerSide = ⟨true, false⟩ →
        j.senderSide.active = false → p.pins.home = false →
        closeLine whole j p =
          returning (hurt (some .scanStall) { tally with detail := some ⟨1, c.state.code, c.line⟩ }))

/-! ## Slots -/

/-- The start of a slot that sends no pixel, every slot of a white line among them, puts the increment of its state in
force (R113, R120), for the drum's schedule (R72) and for the line timer's (R79); a sender on the other clock is left
alone (R119). A start commanded early is taken as its own instant (log 2). -/
def Obligations.SlotStartSetsTheIncrement : Prop :=
  ∀ s : State, s.part.settled = true →
    let p := s.part
    let fixed : Nat → Prop := fun k =>
      p.sender.state ≠ .image ∨ k < p.settings.strip ∨ p.settings.strip + p.settings.image ≤ k ∨
        p.sender.hand.map LineInHand.kind = some .white
    (∀ period, p.angle.schedule = some period → p.angle.nextStart < p.derived.slots →
      let k := p.angle.nextStart
      let a : AngleClock := { p.angle with elapsed := max p.angle.elapsed (period * k / p.derived.slots),
                                           nextStart := k + 1 }
      (p.sender.onTimer = true → leaves .slotStart s { p with angle := a }) ∧
      (p.sender.onTimer = false → fixed k →
        leaves .slotStart s
          { p with angle := a, sender := { p.sender with increment := slotIncrement p k } })) ∧
    (∀ serves, p.timer.running = some serves → p.timer.begun = true → p.timer.nextStart < p.derived.slots →
      let k := p.timer.nextStart
      let m : LineTimer := { p.timer with count := max p.timer.count (p.timer.modulo * k / p.derived.slots),
                                          nextStart := k + 1 }
      (p.sender.onTimer = false → leaves .lineTimerSlotStart s { p with timer := m }) ∧
      (p.sender.onTimer = true → fixed k →
        leaves .lineTimerSlotStart s
          { p with timer := m, sender := { p.sender with increment := slotIncrement p k } }))

/-- The start of image slot `k` of a line read from a ring (R133): the pixel of that number at the head of the FIFO
sets level and increment through the job's curve (R111 to R113), pixels of earlier slots being discarded; with none
the slot is an underrun, counted, at the held level or at 255 in slot 0. The image slots of a white line send fixed
white and count nothing (R120). -/
def Obligations.ImageSlotSendsItsPixelOrUnderruns : Prop :=
  (∀ (p : Part) (h : LineInHand) (k : Nat) (j : Job), p.sender.hand = some h → h.kind ≠ .white →
    p.sender.state = .image → k < p.settings.image → p.disp.relayJob = some j →
    let first := h.nextRead - 4 - p.sender.fifo.length
    let curve := p.settings.curves.getD j.spec.curve []
    let tones := levelIncrement p.settings.blackTone p.settings.whiteTone
    let heldLevel := if k = 0 then 255 else p.sender.held
    let q := senderSlotStart (p.settings.strip + k) p
    (∀ late b rest, p.sender.fifo = late ++ b :: rest → first + late.length = k →
      q = { p with sender := { p.sender with hand := some { h with nextSlot := k + 1 }, fifo := rest,
                                             held := curveLevel curve b.toNat,
                                             increment := tones (curveLevel curve b.toNat) } }) ∧
    ((k < first ∨ first + p.sender.fifo.length ≤ k) →
      q = { p with
        sender := { p.sender with hand := some { h with nextSlot := k + 1 }, fifo := p.sender.fifo.drop (k - first),
                                  held := heldLevel, increment := tones heldLevel },
        disp := { p.disp with relayJob := some { j with tally := { j.tally with
          underruns := min 65535 (j.tally.underruns + 1) } } } })) ∧
  ∀ (p : Part) (h : LineInHand) (k : Nat), p.sender.hand = some h → h.kind = .white → p.sender.state = .image →
    k < p.settings.image →
    senderSlotStart (p.settings.strip + k) p =
      { p with sender := { p.sender with increment := p.derived.whiteIncrement } }

/-- At the centre of a strip or image slot of an open, undamaged line a conversion set starts, but in the strip under
NO_STRIP; a set still in progress there ends first, with the conversions that have completed (R92); each conversion
joins its set (R92). At its end an image slot gives its pixel to the scan FIFO, and the last image slot the header
after it (R94, R95); a pixel or a header byte that meets a full FIFO damages the line (R95), whose strip sums are
dropped (R109). A clean strip slot joins the sums of its patch (R109), and the last one gives new references, or a
strip fault and at its limit LAMP_FAULT (R93, R110). The value comes with the command, and a centre commanded early is
taken as its instant (logs 2, 8). -/
def Obligations.ConversionsFormAPixel : Prop :=
  ∀ s : State, s.part.settled = true →
    let p := s.part
    let cfg := p.settings
    let width := cfg.strip + cfg.image
    (∀ period, p.angle.schedule = some period → p.angle.nextCentre < p.derived.slots →
      let k := p.angle.nextCentre
      let a : AngleClock := { p.angle with
        elapsed := max p.angle.elapsed (period * (2 * k + 1) / (2 * p.derived.slots)), nextCentre := k + 1 }
      let starts : Part → Part := fun q =>
        if q.scanner.openLine.map OpenLine.damaged = some false ∧ k < width ∧ ¬ (p.noStrip = true ∧ k < cfg.strip) then
          { q with scanner := { q.scanner with convSet := some ⟨k, []⟩ },
                   clock := { q.clock with beatInConversion := 0 } }
        else q
      let cut : Scanner → Part := fun scanner => { p with angle := a, scanner := { scanner with convSet := none } }
      (p.scanner.convSet = none → leaves .slotCentre s (starts { p with angle := a })) ∧
      (p.scanner.openLine.map OpenLine.damaged ≠ some false → leaves .slotCentre s (cut p.scanner)) ∧
      ∀ c l, p.scanner.convSet = some c → p.scanner.openLine = some l → l.damaged = false →
        setEnds .slotCentre s c.values c.slot l cut starts) ∧
    (∀ value : Sample, p.scanner.convSet = none → leaves (.conversionComplete value) s { p with phc := value }) ∧
    ∀ (value : Sample) (c : ConversionSet), p.scanner.convSet = some c →
      let cmd := Instr.conversionComplete value
      let xs := c.values ++ [value.toNat]
      let clock := { p.clock with beatInConversion := 0 }
      (xs.length < cfg.conversions →
        leaves cmd s
          { p with phc := value, clock := clock, scanner := { p.scanner with convSet := some { c with values := xs } } }) ∧
      (cfg.conversions ≤ xs.length → ∀ l, p.scanner.openLine = some l → l.damaged = false →
        setEnds cmd s xs c.slot l
          (fun scanner => { p with phc := value, clock := clock, scanner := { scanner with convSet := none } }) id)

/-- A line timer expiry is a line event of the sender it serves (R78, R119). A RELAY in STANDBY enters START with
white at line event 0 (R123, R124); in START below its start revolutions it counts on (R124), and at that number
PHASING begins (R125). At line event s + p the image begins: the line in hand is released (R127), IMAGE ends after the
last line requested or one marked LAST (R130, R131), an eligible line is taken, and otherwise the last one is read
again or a white line sent (R127, R129), with FEED_STALL at the limit (R130). STOP counts to its end in AWAIT_RECEIPT,
or in IDLE with the job's slip (R134, R138). An expiry commanded early is taken as its instant; a stopped timeout and
a stopped line timer hold the model's values, the line clock stands in IDLE, the call mark falls at STOP, and a
repeated or white line in hand holds the model's values in the fields not read (logs 2, 43, 46, 47, 51, 54). -/
def Obligations.LineTimerExpiryIsALineEvent : Prop :=
  ∀ (s : State) (j : Job), s.part.settled = true → s.part.timer.running = some .relay →
    s.part.sender.onTimer = true → s.part.disp.relayJob = some j → j.spec.kind = .relay →
    let p := s.part
    let d := p.sender
    let n := d.events + 1
    let phasingEnd := j.spec.startRevs + j.spec.phasingRevs
    let timer : LineTimer := { p.timer with count := 0, begun := true, nextStart := 0 }
    let q : Part → Sender → Tally → Part := fun r d' tally =>
      { r with timer := timer, sender := { d' with events := n },
               disp := { p.disp with relayJob := some { j with tally := tally } } }
    let counted : Tally := { j.tally with lineEvents := min 65535 (j.tally.lineEvents + 1) }
    let phased : Tally := { counted with phasingSent := min 31 (j.tally.phasingSent + 1) }
    (d.state = .calling → leaves .lineTimerExpiry s { p with timer := timer }) ∧
    (d.state = .standby →
      leaves .lineTimerExpiry s
        { q p d counted with sender := { d with state := .start, events := 0,
                                                increment := p.derived.whiteIncrement } }) ∧
    (d.state = .start → n < j.spec.startRevs → leaves .lineTimerExpiry s (q p d counted)) ∧
    (d.state = .start → j.spec.startRevs ≤ n →
      leaves .lineTimerExpiry s (q p { d with state := .phasing } phased)) ∧
    (d.state = .phasing → n < phasingEnd → leaves .lineTimerExpiry s (q p d phased)) ∧
    ((d.state = .phasing ∧ phasingEnd ≤ n ∧ d.hand = none) ∨ d.state = .image →
      let r := released p
      let e := r.sender
      let fresh := j.tally.linesFresh
      let last := lastInHand d
      let slotAt : Nat → Option Region := fun i =>
        some ⟨p.settings.feedBase + i * (4 + p.settings.image), 4 + p.settings.image⟩
      let sends : Nat → MemoryPath := fun i => { r.path with guards := { r.path.guards with sending := slotAt i } }
      let back := (e.feedConsumer + p.settings.feedSize - 1) % p.settings.feedSize
      let stall := min 63 (d.stall + 1)
      let repeats : Sender := { e with state := .image, fifo := [], held := 255, stall := stall }
      let repeated : Tally := { counted with linesRepeated := min 65535 (j.tally.linesRepeated + 1) }
      ((j.spec.lines ≤ fresh ∨ last) →
        leaves .lineTimerExpiry s
          (q r { e with state := .stop, increment := p.derived.blackIncrement, stopCount := 0, callMark := false,
                        fifo := [] }
            { counted with isShort := j.tally.isShort || decide (j.spec.lines > fresh) })) ∧
      (¬ (j.spec.lines ≤ fresh ∨ last) →
        (e.feedConsumer ≠ e.feedProducer →
          leaves .lineTimerExpiry s
            (q { r with path := sends e.feedConsumer }
              { e with state := .image, hand := some (newHand .feed e.feedConsumer .taken 0), fifo := [], held := 255,
                       stall := 0, line := fresh }
              { counted with linesFresh := min 4095 (fresh + 1) })) ∧
        (e.feedConsumer = e.feedProducer → stall < p.settings.stallLimit →
          leaves .lineTimerExpiry s
            (if fresh = 0 then q r { repeats with hand := some (newHand .feed back .white 0) } repeated
             else q { r with path := sends back } { repeats with hand := some (newHand .feed back .repeated 4) }
               repeated)) ∧
        (e.feedConsumer = e.feedProducer → p.settings.stallLimit ≤ stall → j.firstCause = none →
          j.scannerSide.active = false → j.senderSide = ⟨true, false⟩ →
          answers .lineTimerExpiry s fun t =>
            t.part.sender.state = .stop ∧ t.part.sender.hand = none ∧
              causedIn .relay j.spec .feedStall (some ⟨2, 5, d.line⟩) t.part))) ∧
    (d.state = .stop →
      let stopped : Sender := { d with events := n, stopCount := min 15 (d.stopCount + 1) }
      (stopped.stopCount < p.settings.stopRevs → leaves .lineTimerExpiry s (q p stopped counted)) ∧
      (p.settings.stopRevs ≤ stopped.stopCount → p.servo.demands.live = none →
        (j.firstCause = none → j.spec.waitReceipt = true →
          leaves .lineTimerExpiry s
            (q p { stopped with state := .awaitReceipt, timeout := 0, increment := 0 } j.tally)) ∧
        ((j.firstCause ≠ none ∨ j.spec.waitReceipt = false) → j.spec.holdSpin = false →
          j.scannerSide.active = false → j.senderSide = ⟨true, false⟩ → d.hand = none →
          leaves .lineTimerExpiry s
            { p with sender := idleSender stopped, timer := stoppedTimer p.timer,
                     disp := { p.disp with
                       relayJob := none, pendingJob := checked p.disp.pendingJob,
                       slipQueue := p.disp.slipQueue ++ [⟨j.spec, j.firstCause.getD .sent, j.tally⟩] } })))

/-! ## Carriage, tone, detector -/

/-- One forward pulse, which marks the block dirty (R84, R97; the model's reading of the two: log 39), and one pulse
of a homing, which lowers a known position in RETURN down to 0 (R86). The input levels come with the command
(log 5). -/
def Obligations.StepPulsesMoveTheCarriage : Prop :=
  ∀ (s : State) (pins : Pins),
    let p := s.part
    let c := p.scanner
    (0 < c.stepsOwed →
      endsIn (.forwardStep pins) s
        { p with pins := pins, scanner := { c with step := true, stepsOwed := c.stepsOwed - 1, stepTicks := 0 },
                 status := { p.status with dirty := true } }) ∧
    (c.homing = true →
      endsIn (.homingStep pins) s
        (markChanges p
          { p with pins := pins,
                   scanner := { c with step := true, stepTicks := 0,
                                       position := if c.state = .back then c.position.map (· - 1)
                                         else c.position } }))

/-- A tone sample (R115, R116): in a tone-on state the phase advances by the increment modulo 65 536 and TXA is
128 + floor(sine × gain / 16) of its high byte; in silence TXA is 128 and the phase stands. The DAC code keeps to
1..255, and the sine is odd about half a turn. -/
def Obligations.ToneSampleDrivesTxa : Prop :=
  (∀ s : State, s.part.resetActive = false →
    let p := s.part
    let clock := { p.clock with beatInSample := 0 }
    let phase := (p.sender.phase + p.sender.increment) % 65536
    (∀ j, p.senderJob = some j → p.sender.state = .start ∨ p.sender.state = .phasing ∨ p.sender.state = .image ∨
        p.sender.state = .stop →
      endsIn .toneSample s
        { p with clock := clock,
                 sender := { p.sender with
                   phase := phase,
                   txa := (128 + sineTable (phase / 256) * (j.spec.gain : Int) / 16).toNat } }) ∧
    (p.sender.state = .idle ∨ p.sender.state = .calling ∨ p.sender.state = .standby ∨
        p.sender.state = .awaitReceipt →
      endsIn .toneSample s { p with clock := clock, sender := { p.sender with txa := 128 } })) ∧
  ∀ phase g : Nat, phase < 65536 → g ≤ 16 →
    1 ≤ dacCode phase g ∧ dacCode phase g ≤ 255 ∧ dacCode phase 0 = 128 ∧
    (dacCode phase 16 : Int) = 128 + sineTable (phase / 256) ∧
    sineTable ((phase / 256 + 128) % 256) = - sineTable (phase / 256)

/-- An RXC edge in SILENT begins TRACKING (R140). In TRACKING a cycle out of band ends the run; one in band begins or
lengthens it, and at the persistence the tone is heard and shown (R143, R144, R146). In HEARD a cycle of the tone
clears the loss count, and the fourth other one in a row ends the tone (R145). Silence clears previous capture, run
and tone (R141; the quiet time: log 44). The tone heard joins the tones of a RELAY, and its sender acts by its state
(R122, R135, R136): READY ends CALLING, HALT ends or stops the sending, RECEIPT delivers, and any other goes to the
event list. The counter takes the operand's value, and the count of a timeout that READY stops becomes 0; a stopped
line timer, the call mark at STOP and the line clock in IDLE are the model's too (logs 7, 43, 46, 47, 51). -/
def Obligations.DetectorTracksCycles : Prop :=
  ∀ (s : State) (micro : Tick), s.part.settled = true → s.part.resetActive = false → s.part.placed = true →
    let p := s.part
    let d := p.detector
    let cmd := Instr.rxcCapture micro
    let q : Detector → Part := fun d' => { p with clock := { p.clock with micro := micro }, detector := d' }
    let silent : Detector := ⟨.silent, none, 0, none, 0, 0⟩
    (d.previous = none → leaves cmd s (q { silent with state := .tracking, previous := some micro })) ∧
    (d.previous ≠ none → endsIn .detectorSilence s { p with detector := silent }) ∧
    ∀ last, d.previous = some last → micro ≠ last → (micro - last).toNat ≤ 8000 →
      let cycle := (micro - last).toNat
      let within : Band → Prop := fun b => b.low ≤ cycle ∧ cycle ≤ b.high
      let band : Option Tone :=
        if within p.derived.readyBand then some .ready else if within p.derived.haltBand then some .halt
        else if within p.derived.receiptBand then some .receipt else none
      let n := if band = none then 0 else if d.runTone = band then min 255 (d.runCount + 1) else 1
      let e : Detector := { d with previous := some micro, quiet := 0, runTone := band, runCount := n }
      (d.state = .tracking → (band = none ∨ n < p.settings.persistence) → leaves cmd s (q e)) ∧
      (∀ tone, d.state = .heard tone →
        leaves cmd s
          (q (if band = some tone then { e with loss := 0 }
              else if d.loss + 1 < 4 then { e with loss := d.loss + 1 }
              else { e with loss := 4, state := .tracking }))) ∧
      ∀ tone, d.state = .tracking → band = some tone → p.settings.persistence ≤ n →
        let heard : Part :=
          { q { e with state := .heard tone, loss := 0 } with status := { p.status with lastTone := some tone } }
        (p.senderSlot = none → leaves cmd s heard) ∧
        ∀ j, relaySends p j →
          let u := p.sender
          let tally : Tally := { j.tally with tones :=
            ⟨j.tally.tones.ready || decide (tone = .ready), j.tally.tones.halt || decide (tone = .halt),
              j.tally.tones.receipt || decide (tone = .receipt)⟩ }
          let r := released heard
          let g : Part → Sender → Option Cause → Tally → Part := fun q' u' cause tally' =>
            { q' with sender := u',
                      disp := { p.disp with relayJob := some { j with firstCause := cause, tally := tally' } } }
          let detail : Tally := { tally with detail := some ⟨4, u.state.code, u.line⟩ }
          let ended : Cause → Tally → Part := fun cause tally' =>
            { r with sender := idleSender r.sender, timer := stoppedTimer p.timer,
                     disp := { p.disp with relayJob := none, pendingJob := checked p.disp.pendingJob,
                                           slipQueue := p.disp.slipQueue ++ [⟨j.spec, cause, tally'⟩] } }
          leaves cmd s
            (match tone, u.state with
             | .ready, .calling => g heard { u with state := .standby, timeout := 0 } none tally
             | .ready, _ => g heard u none (tally.place .readyUnexpected u.line)
             | .receipt, .awaitReceipt => ended .delivered tally
             | .receipt, _ => g heard u none (tally.place .receiptUnexpected u.line)
             | .halt, .awaitReceipt => ended .rejected detail
             | .halt, .calling | .halt, .standby => ended .halted detail
             | .halt, .start | .halt, .phasing | .halt, .image =>
               g r { r.sender with state := .stop, increment := p.derived.blackIncrement, stopCount := 0,
                                   callMark := false, fifo := [] } (some .halted) detail
             | .halt, .stop | .halt, .idle => g heard u none (tally.place .haltLate u.line))

/-! ## Start-up -/

/-- An image byte (R18 to R20, R23, R24): a wrong marker, version or length byte refuses the image at once; any
other joins the image, and bytes 0 to 150 the running sum; the last one decides. Acceptance puts settings and
derived values in force in CLOSED, guards the status block, and raises START. The settings are read from their bytes
(Table 12.6-1), checked against their ranges (R21) and relations (R22), and the derived values are those of R24. The
levels of the link at whole bytes
are the model's (log 29). -/
def Obligations.ImageBytesDecideTheStart : Prop :=
  settingsRead ∧ rangesChecked ∧ relationsChecked ∧ valuesDerived ∧
  ∀ (b : Byte) (s : State), s.part.settled = true → s.part.loader.device = .loading →
    s.part.loader.reading = true →
    let p := s.part
    let i := p.loader.image.length
    let image := p.loader.image ++ [b]
    let sum := if i < 151 then p.loader.sum + b.zeroExtend 16 else p.loader.sum
    let joined : Loader := { p.loader with cfck := true, shifted := 16, image := image, sum := sum }
    let cfg := parseSettings image
    let header := (i = 0 → b = 0x48) ∧ (i = 1 → b = 0x43) ∧ (i = 2 → b = 0x01) ∧ (i = 3 → b = 0x97)
    let good := sum = BitVec.ofNat 16 ((image.getD 151 0).toNat + 256 * (image.getD 152 0).toNat) ∧
      cfg.rangesGood = true ∧ cfg.relationsGood = true
    let refused : Part :=
      { p with loader := { joined with device := .passOnly, fault := true, reading := false, cfck := false } }
    (¬ header → leaves (.imageByteReceived b) s refused) ∧
    (header → i + 1 < 153 → leaves (.imageByteReceived b) s { p with loader := joined }) ∧
    (header → 153 ≤ i + 1 → ¬ good → leaves (.imageByteReceived b) s refused) ∧
    (header → 153 ≤ i + 1 → good →
      leaves (.imageByteReceived b) s
        (({ p with
            loader := { joined with accepted := some ⟨cfg, cfg.derive⟩, device := .closed, reading := false,
                                    cfck := false },
            path := { p.path with guards := { p.path.guards with statusBlock := some ⟨cfg.statusBase, 32⟩ } },
            scanner := { p.scanner with white := cfg.defaultWhite, black := cfg.defaultBlack } } : Part).raise
          .start))

/-- RESET puts every block at its reset values and leaves RAM, but for a held write, which is let through as in
LOADING (R16, R27, R49, R68, R70, R77, R81, R105, R139, R147, R159, R167); a host transfer keeps the port. The
values the manual does not give are the model's (log 18), and so is the order of the held access (log 20). With
RESET inactive the counters start from 0 (R70, R82); that the PWM count and the counts of half microseconds start from
0 with them, and stand while RESET is active, is the model's choice (logs 19, 34). -/
def Obligations.ResetAndRelease : Prop :=
  ∀ s : State,
    let p := s.part
    let at0 : Port → Byte → Part := fun port out =>
      { Part.reset with pins := p.pins, phc := p.phc, choices := p.choices,
                        path := { Part.reset.path with port := port, dataOut := out } }
    (p.path.waiting = none → endsIn .reset s (at0 (if p.path.port = .host then .host else .idle) p.path.dataOut)) ∧
    (∀ x n, p.path.waiting = some ⟨.read x, n⟩ → endsIn .reset s (at0 .host (s.ram.read x))) ∧
    (∀ x b n, p.path.waiting = some ⟨.write x b, n⟩ → s.ram.wf = true →
      answers .reset s fun t =>
        t.part = at0 .host p.path.dataOut ∧ t.pending = s.pending ∧ t.ram.read x = b ∧
          ∀ a : Nat, a ≠ x → t.ram.read a = s.ram.read a) ∧
    (p.resetActive = true →
      endsIn .resetRelease s { p with resetActive := false, clock := ⟨0, 0, 0, 0, 0, 0, 0⟩ })
end

