-- ==== Sys2Proof/Laws/State.lean ====
section
/-! SUPPORT. One lemma for each field of each update of one block of the part, all true by computation. -/

namespace Sys2Proof.Machine

variable (p : Part) (s : State)

section onClock
variable (f : Timebase → Timebase)
@[simp] theorem Part.onClock_pins : (p.onClock f).pins = p.pins := rfl
@[simp] theorem Part.onClock_phc : (p.onClock f).phc = p.phc := rfl
@[simp] theorem Part.onClock_resetActive : (p.onClock f).resetActive = p.resetActive := rfl
@[simp] theorem Part.onClock_choices : (p.onClock f).choices = p.choices := rfl
@[simp] theorem Part.onClock_clock : (p.onClock f).clock = f p.clock := rfl
@[simp] theorem Part.onClock_loader : (p.onClock f).loader = p.loader := rfl
@[simp] theorem Part.onClock_path : (p.onClock f).path = p.path := rfl
@[simp] theorem Part.onClock_disp : (p.onClock f).disp = p.disp := rfl
@[simp] theorem Part.onClock_servo : (p.onClock f).servo = p.servo := rfl
@[simp] theorem Part.onClock_angle : (p.onClock f).angle = p.angle := rfl
@[simp] theorem Part.onClock_timer : (p.onClock f).timer = p.timer := rfl
@[simp] theorem Part.onClock_scanner : (p.onClock f).scanner = p.scanner := rfl
@[simp] theorem Part.onClock_sender : (p.onClock f).sender = p.sender := rfl
@[simp] theorem Part.onClock_detector : (p.onClock f).detector = p.detector := rfl
@[simp] theorem Part.onClock_slips : (p.onClock f).slips = p.slips := rfl
@[simp] theorem Part.onClock_status : (p.onClock f).status = p.status := rfl
@[simp] theorem Part.onClock_settings : (p.onClock f).settings = p.settings := rfl
@[simp] theorem Part.onClock_derived : (p.onClock f).derived = p.derived := rfl
@[simp] theorem Part.onClock_placed : (p.onClock f).placed = p.placed := rfl
@[simp] theorem Part.onClock_isOpen : (p.onClock f).isOpen = p.isOpen := rfl
end onClock

section onLoader
variable (f : Loader → Loader)
@[simp] theorem Part.onLoader_pins : (p.onLoader f).pins = p.pins := rfl
@[simp] theorem Part.onLoader_phc : (p.onLoader f).phc = p.phc := rfl
@[simp] theorem Part.onLoader_resetActive : (p.onLoader f).resetActive = p.resetActive := rfl
@[simp] theorem Part.onLoader_choices : (p.onLoader f).choices = p.choices := rfl
@[simp] theorem Part.onLoader_clock : (p.onLoader f).clock = p.clock := rfl
@[simp] theorem Part.onLoader_loader : (p.onLoader f).loader = f p.loader := rfl
@[simp] theorem Part.onLoader_path : (p.onLoader f).path = p.path := rfl
@[simp] theorem Part.onLoader_disp : (p.onLoader f).disp = p.disp := rfl
@[simp] theorem Part.onLoader_servo : (p.onLoader f).servo = p.servo := rfl
@[simp] theorem Part.onLoader_angle : (p.onLoader f).angle = p.angle := rfl
@[simp] theorem Part.onLoader_timer : (p.onLoader f).timer = p.timer := rfl
@[simp] theorem Part.onLoader_scanner : (p.onLoader f).scanner = p.scanner := rfl
@[simp] theorem Part.onLoader_sender : (p.onLoader f).sender = p.sender := rfl
@[simp] theorem Part.onLoader_detector : (p.onLoader f).detector = p.detector := rfl
@[simp] theorem Part.onLoader_slips : (p.onLoader f).slips = p.slips := rfl
@[simp] theorem Part.onLoader_status : (p.onLoader f).status = p.status := rfl
end onLoader

section onPath
variable (f : MemoryPath → MemoryPath)
@[simp] theorem Part.onPath_pins : (p.onPath f).pins = p.pins := rfl
@[simp] theorem Part.onPath_phc : (p.onPath f).phc = p.phc := rfl
@[simp] theorem Part.onPath_resetActive : (p.onPath f).resetActive = p.resetActive := rfl
@[simp] theorem Part.onPath_choices : (p.onPath f).choices = p.choices := rfl
@[simp] theorem Part.onPath_clock : (p.onPath f).clock = p.clock := rfl
@[simp] theorem Part.onPath_loader : (p.onPath f).loader = p.loader := rfl
@[simp] theorem Part.onPath_path : (p.onPath f).path = f p.path := rfl
@[simp] theorem Part.onPath_disp : (p.onPath f).disp = p.disp := rfl
@[simp] theorem Part.onPath_servo : (p.onPath f).servo = p.servo := rfl
@[simp] theorem Part.onPath_angle : (p.onPath f).angle = p.angle := rfl
@[simp] theorem Part.onPath_timer : (p.onPath f).timer = p.timer := rfl
@[simp] theorem Part.onPath_scanner : (p.onPath f).scanner = p.scanner := rfl
@[simp] theorem Part.onPath_sender : (p.onPath f).sender = p.sender := rfl
@[simp] theorem Part.onPath_detector : (p.onPath f).detector = p.detector := rfl
@[simp] theorem Part.onPath_slips : (p.onPath f).slips = p.slips := rfl
@[simp] theorem Part.onPath_status : (p.onPath f).status = p.status := rfl
@[simp] theorem Part.onPath_settings : (p.onPath f).settings = p.settings := rfl
@[simp] theorem Part.onPath_derived : (p.onPath f).derived = p.derived := rfl
@[simp] theorem Part.onPath_placed : (p.onPath f).placed = p.placed := rfl
@[simp] theorem Part.onPath_isOpen : (p.onPath f).isOpen = p.isOpen := rfl
end onPath

section onDisp
variable (f : Dispatcher → Dispatcher)
@[simp] theorem Part.onDisp_pins : (p.onDisp f).pins = p.pins := rfl
@[simp] theorem Part.onDisp_phc : (p.onDisp f).phc = p.phc := rfl
@[simp] theorem Part.onDisp_resetActive : (p.onDisp f).resetActive = p.resetActive := rfl
@[simp] theorem Part.onDisp_choices : (p.onDisp f).choices = p.choices := rfl
@[simp] theorem Part.onDisp_clock : (p.onDisp f).clock = p.clock := rfl
@[simp] theorem Part.onDisp_loader : (p.onDisp f).loader = p.loader := rfl
@[simp] theorem Part.onDisp_path : (p.onDisp f).path = p.path := rfl
@[simp] theorem Part.onDisp_disp : (p.onDisp f).disp = f p.disp := rfl
@[simp] theorem Part.onDisp_servo : (p.onDisp f).servo = p.servo := rfl
@[simp] theorem Part.onDisp_angle : (p.onDisp f).angle = p.angle := rfl
@[simp] theorem Part.onDisp_timer : (p.onDisp f).timer = p.timer := rfl
@[simp] theorem Part.onDisp_scanner : (p.onDisp f).scanner = p.scanner := rfl
@[simp] theorem Part.onDisp_sender : (p.onDisp f).sender = p.sender := rfl
@[simp] theorem Part.onDisp_detector : (p.onDisp f).detector = p.detector := rfl
@[simp] theorem Part.onDisp_slips : (p.onDisp f).slips = p.slips := rfl
@[simp] theorem Part.onDisp_status : (p.onDisp f).status = p.status := rfl
@[simp] theorem Part.onDisp_settings : (p.onDisp f).settings = p.settings := rfl
@[simp] theorem Part.onDisp_derived : (p.onDisp f).derived = p.derived := rfl
@[simp] theorem Part.onDisp_placed : (p.onDisp f).placed = p.placed := rfl
@[simp] theorem Part.onDisp_isOpen : (p.onDisp f).isOpen = p.isOpen := rfl
end onDisp

section onServo
variable (f : Servo → Servo)
@[simp] theorem Part.onServo_pins : (p.onServo f).pins = p.pins := rfl
@[simp] theorem Part.onServo_phc : (p.onServo f).phc = p.phc := rfl
@[simp] theorem Part.onServo_resetActive : (p.onServo f).resetActive = p.resetActive := rfl
@[simp] theorem Part.onServo_choices : (p.onServo f).choices = p.choices := rfl
@[simp] theorem Part.onServo_clock : (p.onServo f).clock = p.clock := rfl
@[simp] theorem Part.onServo_loader : (p.onServo f).loader = p.loader := rfl
@[simp] theorem Part.onServo_path : (p.onServo f).path = p.path := rfl
@[simp] theorem Part.onServo_disp : (p.onServo f).disp = p.disp := rfl
@[simp] theorem Part.onServo_servo : (p.onServo f).servo = f p.servo := rfl
@[simp] theorem Part.onServo_angle : (p.onServo f).angle = p.angle := rfl
@[simp] theorem Part.onServo_timer : (p.onServo f).timer = p.timer := rfl
@[simp] theorem Part.onServo_scanner : (p.onServo f).scanner = p.scanner := rfl
@[simp] theorem Part.onServo_sender : (p.onServo f).sender = p.sender := rfl
@[simp] theorem Part.onServo_detector : (p.onServo f).detector = p.detector := rfl
@[simp] theorem Part.onServo_slips : (p.onServo f).slips = p.slips := rfl
@[simp] theorem Part.onServo_status : (p.onServo f).status = p.status := rfl
@[simp] theorem Part.onServo_settings : (p.onServo f).settings = p.settings := rfl
@[simp] theorem Part.onServo_derived : (p.onServo f).derived = p.derived := rfl
@[simp] theorem Part.onServo_placed : (p.onServo f).placed = p.placed := rfl
@[simp] theorem Part.onServo_isOpen : (p.onServo f).isOpen = p.isOpen := rfl
end onServo

section onAngle
variable (f : AngleClock → AngleClock)
@[simp] theorem Part.onAngle_pins : (p.onAngle f).pins = p.pins := rfl
@[simp] theorem Part.onAngle_phc : (p.onAngle f).phc = p.phc := rfl
@[simp] theorem Part.onAngle_resetActive : (p.onAngle f).resetActive = p.resetActive := rfl
@[simp] theorem Part.onAngle_choices : (p.onAngle f).choices = p.choices := rfl
@[simp] theorem Part.onAngle_clock : (p.onAngle f).clock = p.clock := rfl
@[simp] theorem Part.onAngle_loader : (p.onAngle f).loader = p.loader := rfl
@[simp] theorem Part.onAngle_path : (p.onAngle f).path = p.path := rfl
@[simp] theorem Part.onAngle_disp : (p.onAngle f).disp = p.disp := rfl
@[simp] theorem Part.onAngle_servo : (p.onAngle f).servo = p.servo := rfl
@[simp] theorem Part.onAngle_angle : (p.onAngle f).angle = f p.angle := rfl
@[simp] theorem Part.onAngle_timer : (p.onAngle f).timer = p.timer := rfl
@[simp] theorem Part.onAngle_scanner : (p.onAngle f).scanner = p.scanner := rfl
@[simp] theorem Part.onAngle_sender : (p.onAngle f).sender = p.sender := rfl
@[simp] theorem Part.onAngle_detector : (p.onAngle f).detector = p.detector := rfl
@[simp] theorem Part.onAngle_slips : (p.onAngle f).slips = p.slips := rfl
@[simp] theorem Part.onAngle_status : (p.onAngle f).status = p.status := rfl
@[simp] theorem Part.onAngle_settings : (p.onAngle f).settings = p.settings := rfl
@[simp] theorem Part.onAngle_derived : (p.onAngle f).derived = p.derived := rfl
@[simp] theorem Part.onAngle_placed : (p.onAngle f).placed = p.placed := rfl
@[simp] theorem Part.onAngle_isOpen : (p.onAngle f).isOpen = p.isOpen := rfl
end onAngle

section onTimer
variable (f : LineTimer → LineTimer)
@[simp] theorem Part.onTimer_pins : (p.onTimer f).pins = p.pins := rfl
@[simp] theorem Part.onTimer_phc : (p.onTimer f).phc = p.phc := rfl
@[simp] theorem Part.onTimer_resetActive : (p.onTimer f).resetActive = p.resetActive := rfl
@[simp] theorem Part.onTimer_choices : (p.onTimer f).choices = p.choices := rfl
@[simp] theorem Part.onTimer_clock : (p.onTimer f).clock = p.clock := rfl
@[simp] theorem Part.onTimer_loader : (p.onTimer f).loader = p.loader := rfl
@[simp] theorem Part.onTimer_path : (p.onTimer f).path = p.path := rfl
@[simp] theorem Part.onTimer_disp : (p.onTimer f).disp = p.disp := rfl
@[simp] theorem Part.onTimer_servo : (p.onTimer f).servo = p.servo := rfl
@[simp] theorem Part.onTimer_angle : (p.onTimer f).angle = p.angle := rfl
@[simp] theorem Part.onTimer_timer : (p.onTimer f).timer = f p.timer := rfl
@[simp] theorem Part.onTimer_scanner : (p.onTimer f).scanner = p.scanner := rfl
@[simp] theorem Part.onTimer_sender : (p.onTimer f).sender = p.sender := rfl
@[simp] theorem Part.onTimer_detector : (p.onTimer f).detector = p.detector := rfl
@[simp] theorem Part.onTimer_slips : (p.onTimer f).slips = p.slips := rfl
@[simp] theorem Part.onTimer_status : (p.onTimer f).status = p.status := rfl
@[simp] theorem Part.onTimer_settings : (p.onTimer f).settings = p.settings := rfl
@[simp] theorem Part.onTimer_derived : (p.onTimer f).derived = p.derived := rfl
@[simp] theorem Part.onTimer_placed : (p.onTimer f).placed = p.placed := rfl
@[simp] theorem Part.onTimer_isOpen : (p.onTimer f).isOpen = p.isOpen := rfl
end onTimer

section onScanner
variable (f : Scanner → Scanner)
@[simp] theorem Part.onScanner_pins : (p.onScanner f).pins = p.pins := rfl
@[simp] theorem Part.onScanner_phc : (p.onScanner f).phc = p.phc := rfl
@[simp] theorem Part.onScanner_resetActive : (p.onScanner f).resetActive = p.resetActive := rfl
@[simp] theorem Part.onScanner_choices : (p.onScanner f).choices = p.choices := rfl
@[simp] theorem Part.onScanner_clock : (p.onScanner f).clock = p.clock := rfl
@[simp] theorem Part.onScanner_loader : (p.onScanner f).loader = p.loader := rfl
@[simp] theorem Part.onScanner_path : (p.onScanner f).path = p.path := rfl
@[simp] theorem Part.onScanner_disp : (p.onScanner f).disp = p.disp := rfl
@[simp] theorem Part.onScanner_servo : (p.onScanner f).servo = p.servo := rfl
@[simp] theorem Part.onScanner_angle : (p.onScanner f).angle = p.angle := rfl
@[simp] theorem Part.onScanner_timer : (p.onScanner f).timer = p.timer := rfl
@[simp] theorem Part.onScanner_scanner : (p.onScanner f).scanner = f p.scanner := rfl
@[simp] theorem Part.onScanner_sender : (p.onScanner f).sender = p.sender := rfl
@[simp] theorem Part.onScanner_detector : (p.onScanner f).detector = p.detector := rfl
@[simp] theorem Part.onScanner_slips : (p.onScanner f).slips = p.slips := rfl
@[simp] theorem Part.onScanner_status : (p.onScanner f).status = p.status := rfl
@[simp] theorem Part.onScanner_settings : (p.onScanner f).settings = p.settings := rfl
@[simp] theorem Part.onScanner_derived : (p.onScanner f).derived = p.derived := rfl
@[simp] theorem Part.onScanner_placed : (p.onScanner f).placed = p.placed := rfl
@[simp] theorem Part.onScanner_isOpen : (p.onScanner f).isOpen = p.isOpen := rfl
end onScanner

section onSender
variable (f : Sender → Sender)
@[simp] theorem Part.onSender_pins : (p.onSender f).pins = p.pins := rfl
@[simp] theorem Part.onSender_phc : (p.onSender f).phc = p.phc := rfl
@[simp] theorem Part.onSender_resetActive : (p.onSender f).resetActive = p.resetActive := rfl
@[simp] theorem Part.onSender_choices : (p.onSender f).choices = p.choices := rfl
@[simp] theorem Part.onSender_clock : (p.onSender f).clock = p.clock := rfl
@[simp] theorem Part.onSender_loader : (p.onSender f).loader = p.loader := rfl
@[simp] theorem Part.onSender_path : (p.onSender f).path = p.path := rfl
@[simp] theorem Part.onSender_disp : (p.onSender f).disp = p.disp := rfl
@[simp] theorem Part.onSender_servo : (p.onSender f).servo = p.servo := rfl
@[simp] theorem Part.onSender_angle : (p.onSender f).angle = p.angle := rfl
@[simp] theorem Part.onSender_timer : (p.onSender f).timer = p.timer := rfl
@[simp] theorem Part.onSender_scanner : (p.onSender f).scanner = p.scanner := rfl
@[simp] theorem Part.onSender_sender : (p.onSender f).sender = f p.sender := rfl
@[simp] theorem Part.onSender_detector : (p.onSender f).detector = p.detector := rfl
@[simp] theorem Part.onSender_slips : (p.onSender f).slips = p.slips := rfl
@[simp] theorem Part.onSender_status : (p.onSender f).status = p.status := rfl
@[simp] theorem Part.onSender_settings : (p.onSender f).settings = p.settings := rfl
@[simp] theorem Part.onSender_derived : (p.onSender f).derived = p.derived := rfl
@[simp] theorem Part.onSender_placed : (p.onSender f).placed = p.placed := rfl
@[simp] theorem Part.onSender_isOpen : (p.onSender f).isOpen = p.isOpen := rfl
end onSender

section onDetector
variable (f : Detector → Detector)
@[simp] theorem Part.onDetector_pins : (p.onDetector f).pins = p.pins := rfl
@[simp] theorem Part.onDetector_phc : (p.onDetector f).phc = p.phc := rfl
@[simp] theorem Part.onDetector_resetActive : (p.onDetector f).resetActive = p.resetActive := rfl
@[simp] theorem Part.onDetector_choices : (p.onDetector f).choices = p.choices := rfl
@[simp] theorem Part.onDetector_clock : (p.onDetector f).clock = p.clock := rfl
@[simp] theorem Part.onDetector_loader : (p.onDetector f).loader = p.loader := rfl
@[simp] theorem Part.onDetector_path : (p.onDetector f).path = p.path := rfl
@[simp] theorem Part.onDetector_disp : (p.onDetector f).disp = p.disp := rfl
@[simp] theorem Part.onDetector_servo : (p.onDetector f).servo = p.servo := rfl
@[simp] theorem Part.onDetector_angle : (p.onDetector f).angle = p.angle := rfl
@[simp] theorem Part.onDetector_timer : (p.onDetector f).timer = p.timer := rfl
@[simp] theorem Part.onDetector_scanner : (p.onDetector f).scanner = p.scanner := rfl
@[simp] theorem Part.onDetector_sender : (p.onDetector f).sender = p.sender := rfl
@[simp] theorem Part.onDetector_detector : (p.onDetector f).detector = f p.detector := rfl
@[simp] theorem Part.onDetector_slips : (p.onDetector f).slips = p.slips := rfl
@[simp] theorem Part.onDetector_status : (p.onDetector f).status = p.status := rfl
@[simp] theorem Part.onDetector_settings : (p.onDetector f).settings = p.settings := rfl
@[simp] theorem Part.onDetector_derived : (p.onDetector f).derived = p.derived := rfl
@[simp] theorem Part.onDetector_placed : (p.onDetector f).placed = p.placed := rfl
@[simp] theorem Part.onDetector_isOpen : (p.onDetector f).isOpen = p.isOpen := rfl
end onDetector

section onSlips
variable (f : SlipWriter → SlipWriter)
@[simp] theorem Part.onSlips_pins : (p.onSlips f).pins = p.pins := rfl
@[simp] theorem Part.onSlips_phc : (p.onSlips f).phc = p.phc := rfl
@[simp] theorem Part.onSlips_resetActive : (p.onSlips f).resetActive = p.resetActive := rfl
@[simp] theorem Part.onSlips_choices : (p.onSlips f).choices = p.choices := rfl
@[simp] theorem Part.onSlips_clock : (p.onSlips f).clock = p.clock := rfl
@[simp] theorem Part.onSlips_loader : (p.onSlips f).loader = p.loader := rfl
@[simp] theorem Part.onSlips_path : (p.onSlips f).path = p.path := rfl
@[simp] theorem Part.onSlips_disp : (p.onSlips f).disp = p.disp := rfl
@[simp] theorem Part.onSlips_servo : (p.onSlips f).servo = p.servo := rfl
@[simp] theorem Part.onSlips_angle : (p.onSlips f).angle = p.angle := rfl
@[simp] theorem Part.onSlips_timer : (p.onSlips f).timer = p.timer := rfl
@[simp] theorem Part.onSlips_scanner : (p.onSlips f).scanner = p.scanner := rfl
@[simp] theorem Part.onSlips_sender : (p.onSlips f).sender = p.sender := rfl
@[simp] theorem Part.onSlips_detector : (p.onSlips f).detector = p.detector := rfl
@[simp] theorem Part.onSlips_slips : (p.onSlips f).slips = f p.slips := rfl
@[simp] theorem Part.onSlips_status : (p.onSlips f).status = p.status := rfl
@[simp] theorem Part.onSlips_settings : (p.onSlips f).settings = p.settings := rfl
@[simp] theorem Part.onSlips_derived : (p.onSlips f).derived = p.derived := rfl
@[simp] theorem Part.onSlips_placed : (p.onSlips f).placed = p.placed := rfl
@[simp] theorem Part.onSlips_isOpen : (p.onSlips f).isOpen = p.isOpen := rfl
end onSlips

section onStatus
variable (f : StatusWriter → StatusWriter)
@[simp] theorem Part.onStatus_pins : (p.onStatus f).pins = p.pins := rfl
@[simp] theorem Part.onStatus_phc : (p.onStatus f).phc = p.phc := rfl
@[simp] theorem Part.onStatus_resetActive : (p.onStatus f).resetActive = p.resetActive := rfl
@[simp] theorem Part.onStatus_choices : (p.onStatus f).choices = p.choices := rfl
@[simp] theorem Part.onStatus_clock : (p.onStatus f).clock = p.clock := rfl
@[simp] theorem Part.onStatus_loader : (p.onStatus f).loader = p.loader := rfl
@[simp] theorem Part.onStatus_path : (p.onStatus f).path = p.path := rfl
@[simp] theorem Part.onStatus_disp : (p.onStatus f).disp = p.disp := rfl
@[simp] theorem Part.onStatus_servo : (p.onStatus f).servo = p.servo := rfl
@[simp] theorem Part.onStatus_angle : (p.onStatus f).angle = p.angle := rfl
@[simp] theorem Part.onStatus_timer : (p.onStatus f).timer = p.timer := rfl
@[simp] theorem Part.onStatus_scanner : (p.onStatus f).scanner = p.scanner := rfl
@[simp] theorem Part.onStatus_sender : (p.onStatus f).sender = p.sender := rfl
@[simp] theorem Part.onStatus_detector : (p.onStatus f).detector = p.detector := rfl
@[simp] theorem Part.onStatus_slips : (p.onStatus f).slips = p.slips := rfl
@[simp] theorem Part.onStatus_status : (p.onStatus f).status = f p.status := rfl
@[simp] theorem Part.onStatus_settings : (p.onStatus f).settings = p.settings := rfl
@[simp] theorem Part.onStatus_derived : (p.onStatus f).derived = p.derived := rfl
@[simp] theorem Part.onStatus_placed : (p.onStatus f).placed = p.placed := rfl
@[simp] theorem Part.onStatus_isOpen : (p.onStatus f).isOpen = p.isOpen := rfl
end onStatus

@[simp] theorem Part.setPins_pins (x : Pins) : (p.setPins x).pins = x := rfl
@[simp] theorem Part.setPins_phc (x : Pins) : (p.setPins x).phc = p.phc := rfl
@[simp] theorem Part.setPins_resetActive (x : Pins) : (p.setPins x).resetActive = p.resetActive := rfl
@[simp] theorem Part.setPins_choices (x : Pins) : (p.setPins x).choices = p.choices := rfl
@[simp] theorem Part.setPins_clock (x : Pins) : (p.setPins x).clock = p.clock := rfl
@[simp] theorem Part.setPins_loader (x : Pins) : (p.setPins x).loader = p.loader := rfl
@[simp] theorem Part.setPins_path (x : Pins) : (p.setPins x).path = p.path := rfl
@[simp] theorem Part.setPins_disp (x : Pins) : (p.setPins x).disp = p.disp := rfl
@[simp] theorem Part.setPins_servo (x : Pins) : (p.setPins x).servo = p.servo := rfl
@[simp] theorem Part.setPins_angle (x : Pins) : (p.setPins x).angle = p.angle := rfl
@[simp] theorem Part.setPins_timer (x : Pins) : (p.setPins x).timer = p.timer := rfl
@[simp] theorem Part.setPins_scanner (x : Pins) : (p.setPins x).scanner = p.scanner := rfl
@[simp] theorem Part.setPins_sender (x : Pins) : (p.setPins x).sender = p.sender := rfl
@[simp] theorem Part.setPins_detector (x : Pins) : (p.setPins x).detector = p.detector := rfl
@[simp] theorem Part.setPins_slips (x : Pins) : (p.setPins x).slips = p.slips := rfl
@[simp] theorem Part.setPins_status (x : Pins) : (p.setPins x).status = p.status := rfl
@[simp] theorem Part.setPins_settings (x : Pins) : (p.setPins x).settings = p.settings := rfl
@[simp] theorem Part.setPins_derived (x : Pins) : (p.setPins x).derived = p.derived := rfl
@[simp] theorem Part.setPins_placed (x : Pins) : (p.setPins x).placed = p.placed := rfl
@[simp] theorem Part.setPins_isOpen (x : Pins) : (p.setPins x).isOpen = p.isOpen := rfl

@[simp] theorem State.onPart_part (f : Part → Part) : (s.onPart f).part = f s.part := rfl
@[simp] theorem State.onPart_ram (f : Part → Part) : (s.onPart f).ram = s.ram := rfl
@[simp] theorem State.onPart_pending (f : Part → Part) : (s.onPart f).pending = s.pending := rfl

/-- What the blocks read of the loader follows from the loader alone (R3, R17, R24). -/
theorem config_of_loader {p q : Part} (h : q.loader = p.loader) :
    q.settings = p.settings ∧ q.derived = p.derived ∧ q.placed = p.placed ∧ q.isOpen = p.isOpen := by
  simp [Part.settings, Part.derived, Part.placed, Part.isOpen, h]

end Sys2Proof.Machine
end

