-- ==== Sys2Proof/Laws/Frames.lean ====
section
/-! SUPPORT. What each shared operation leaves alone. The pins, PHC, RESET, the timebase, the loader, the tone
detector and the slip writer stand together as the still blocks, which the work of jobs, drum and lines never
touches; `op_still` says that an operation keeps them, `op_keeps` says so of each, and `op_frame` names every
other block it keeps. -/

namespace Sys2Proof.Machine

/-- The blocks named above, together. -/
structure Still where
  pins : Pins
  phc : Sample
  resetActive : Bool
  clock : Timebase
  loader : Loader
  detector : Detector
  slips : SlipWriter

def Part.still (p : Part) : Still := ⟨p.pins, p.phc, p.resetActive, p.clock, p.loader, p.detector, p.slips⟩

theorem Still.parts {p q : Part} (h : q.still = p.still) :
    q.pins = p.pins ∧ q.phc = p.phc ∧ q.resetActive = p.resetActive ∧ q.clock = p.clock ∧ q.loader = p.loader ∧
    q.detector = p.detector ∧ q.slips = p.slips := by
  simpa [Part.still] using h

/-- `q` has the still blocks of `p`, and with them its settings in force, its placement and OPEN. -/
abbrev Keeps (q p : Part) : Prop :=
  q.pins = p.pins ∧ q.phc = p.phc ∧ q.resetActive = p.resetActive ∧ q.clock = p.clock ∧ q.loader = p.loader ∧
    q.detector = p.detector ∧ q.slips = p.slips ∧
    q.settings = p.settings ∧ q.derived = p.derived ∧ q.placed = p.placed ∧ q.isOpen = p.isOpen

theorem Still.keeps {p q : Part} (h : q.still = p.still) : Keeps q p := by
  obtain ⟨h1, h2, h3, h4, h5, h6, h7⟩ := Still.parts h
  exact ⟨h1, h2, h3, h4, h5, h6, h7, config_of_loader h5⟩

variable (p q : Part)

set_option linter.unusedSimpArgs false

@[simp] theorem Part.onPath_still (f : MemoryPath → MemoryPath) : (p.onPath f).still = p.still := rfl
@[simp] theorem Part.onDisp_still (f : Dispatcher → Dispatcher) : (p.onDisp f).still = p.still := rfl
@[simp] theorem Part.onServo_still (f : Servo → Servo) : (p.onServo f).still = p.still := rfl
@[simp] theorem Part.onAngle_still (f : AngleClock → AngleClock) : (p.onAngle f).still = p.still := rfl
@[simp] theorem Part.onTimer_still (f : LineTimer → LineTimer) : (p.onTimer f).still = p.still := rfl
@[simp] theorem Part.onScanner_still (f : Scanner → Scanner) : (p.onScanner f).still = p.still := rfl
@[simp] theorem Part.onSender_still (f : Sender → Sender) : (p.onSender f).still = p.still := rfl
@[simp] theorem Part.onStatus_still (f : StatusWriter → StatusWriter) : (p.onStatus f).still = p.still := rfl
@[simp] theorem Part.choices_still (n : Nat) : ({ p with choices := n } : Part).still = p.still := rfl

section choice
variable {c : Prop} [Decidable c]

theorem still_ite : (if c then p else q).still = if c then p.still else q.still := apply_ite _ _ _ _
theorem pins_ite : (if c then p else q).pins = if c then p.pins else q.pins := apply_ite _ _ _ _
theorem phc_ite : (if c then p else q).phc = if c then p.phc else q.phc := apply_ite _ _ _ _
theorem resetActive_ite : (if c then p else q).resetActive = if c then p.resetActive else q.resetActive := apply_ite _ _ _ _
theorem choices_ite : (if c then p else q).choices = if c then p.choices else q.choices := apply_ite _ _ _ _
theorem clock_ite : (if c then p else q).clock = if c then p.clock else q.clock := apply_ite _ _ _ _
theorem loader_ite : (if c then p else q).loader = if c then p.loader else q.loader := apply_ite _ _ _ _
theorem path_ite : (if c then p else q).path = if c then p.path else q.path := apply_ite _ _ _ _
theorem disp_ite : (if c then p else q).disp = if c then p.disp else q.disp := apply_ite _ _ _ _
theorem servo_ite : (if c then p else q).servo = if c then p.servo else q.servo := apply_ite _ _ _ _
theorem angle_ite : (if c then p else q).angle = if c then p.angle else q.angle := apply_ite _ _ _ _
theorem timer_ite : (if c then p else q).timer = if c then p.timer else q.timer := apply_ite _ _ _ _
theorem scanner_ite : (if c then p else q).scanner = if c then p.scanner else q.scanner := apply_ite _ _ _ _
theorem sender_ite : (if c then p else q).sender = if c then p.sender else q.sender := apply_ite _ _ _ _
theorem detector_ite : (if c then p else q).detector = if c then p.detector else q.detector := apply_ite _ _ _ _
theorem slips_ite : (if c then p else q).slips = if c then p.slips else q.slips := apply_ite _ _ _ _
theorem status_ite : (if c then p else q).status = if c then p.status else q.status := apply_ite _ _ _ _

end choice

@[simp] theorem Part.guardJob_still (r : Option Region) : (Part.guardJob p r).still = p.still := by
  simp [Part.guardJob, still_ite]
@[simp] theorem Part.guardJob_keeps (r : Option Region) : Keeps (Part.guardJob p r) p :=
  Still.keeps (Part.guardJob_still _ _)
@[simp] theorem Part.guardJob_frame (r : Option Region) :
    (Part.guardJob p r).choices = p.choices ∧ (Part.guardJob p r).disp = p.disp ∧
    (Part.guardJob p r).servo = p.servo ∧ (Part.guardJob p r).angle = p.angle ∧
    (Part.guardJob p r).timer = p.timer ∧ (Part.guardJob p r).scanner = p.scanner ∧
    (Part.guardJob p r).sender = p.sender ∧ (Part.guardJob p r).status = p.status := by
  simp [Part.guardJob, choices_ite, disp_ite, servo_ite, angle_ite, timer_ite, scanner_ite, sender_ite, status_ite]

@[simp] theorem Part.guardFill_still (r : Option Region) : (Part.guardFill p r).still = p.still := by
  simp [Part.guardFill, still_ite]
@[simp] theorem Part.guardFill_keeps (r : Option Region) : Keeps (Part.guardFill p r) p :=
  Still.keeps (Part.guardFill_still _ _)
@[simp] theorem Part.guardFill_frame (r : Option Region) :
    (Part.guardFill p r).choices = p.choices ∧ (Part.guardFill p r).disp = p.disp ∧
    (Part.guardFill p r).servo = p.servo ∧ (Part.guardFill p r).angle = p.angle ∧
    (Part.guardFill p r).timer = p.timer ∧ (Part.guardFill p r).scanner = p.scanner ∧
    (Part.guardFill p r).sender = p.sender ∧ (Part.guardFill p r).status = p.status := by
  simp [Part.guardFill, choices_ite, disp_ite, servo_ite, angle_ite, timer_ite, scanner_ite, sender_ite, status_ite]

@[simp] theorem Part.guardSending_still (r : Option Region) : (Part.guardSending p r).still = p.still := by
  simp [Part.guardSending, still_ite]
@[simp] theorem Part.guardSending_keeps (r : Option Region) : Keeps (Part.guardSending p r) p :=
  Still.keeps (Part.guardSending_still _ _)
@[simp] theorem Part.guardSending_frame (r : Option Region) :
    (Part.guardSending p r).choices = p.choices ∧ (Part.guardSending p r).disp = p.disp ∧
    (Part.guardSending p r).servo = p.servo ∧ (Part.guardSending p r).angle = p.angle ∧
    (Part.guardSending p r).timer = p.timer ∧ (Part.guardSending p r).scanner = p.scanner ∧
    (Part.guardSending p r).sender = p.sender ∧ (Part.guardSending p r).status = p.status := by
  simp [Part.guardSending, choices_ite, disp_ite, servo_ite, angle_ite, timer_ite, scanner_ite, sender_ite, status_ite]

@[simp] theorem Part.guardSlip_still (r : Option Region) : (Part.guardSlip p r).still = p.still := by
  simp [Part.guardSlip, still_ite]
@[simp] theorem Part.guardSlip_keeps (r : Option Region) : Keeps (Part.guardSlip p r) p :=
  Still.keeps (Part.guardSlip_still _ _)
@[simp] theorem Part.guardSlip_frame (r : Option Region) :
    (Part.guardSlip p r).choices = p.choices ∧ (Part.guardSlip p r).disp = p.disp ∧
    (Part.guardSlip p r).servo = p.servo ∧ (Part.guardSlip p r).angle = p.angle ∧
    (Part.guardSlip p r).timer = p.timer ∧ (Part.guardSlip p r).scanner = p.scanner ∧
    (Part.guardSlip p r).sender = p.sender ∧ (Part.guardSlip p r).status = p.status := by
  simp [Part.guardSlip, choices_ite, disp_ite, servo_ite, angle_ite, timer_ite, scanner_ite, sender_ite, status_ite]

@[simp] theorem Part.onJob_still (slot : JobSlot) (f : Job → Job) : (Part.onJob p slot f).still = p.still := by
  unfold Part.onJob; split <;> simp [still_ite]
@[simp] theorem Part.onJob_keeps (slot : JobSlot) (f : Job → Job) : Keeps (Part.onJob p slot f) p :=
  Still.keeps (Part.onJob_still _ _ _)
@[simp] theorem Part.onJob_frame (slot : JobSlot) (f : Job → Job) :
    (Part.onJob p slot f).choices = p.choices ∧ (Part.onJob p slot f).path = p.path ∧
    (Part.onJob p slot f).servo = p.servo ∧ (Part.onJob p slot f).angle = p.angle ∧
    (Part.onJob p slot f).timer = p.timer ∧ (Part.onJob p slot f).scanner = p.scanner ∧
    (Part.onJob p slot f).sender = p.sender ∧ (Part.onJob p slot f).status = p.status := by
  unfold Part.onJob; split <;> simp [choices_ite, path_ite, servo_ite, angle_ite, timer_ite, scanner_ite, sender_ite, status_ite]

@[simp] theorem Part.onTally_still (slot : JobSlot) (f : Tally → Tally) :
    (Part.onTally p slot f).still = p.still := by
  simp [Part.onTally, still_ite]
@[simp] theorem Part.onTally_keeps (slot : JobSlot) (f : Tally → Tally) : Keeps (Part.onTally p slot f) p :=
  Still.keeps (Part.onTally_still _ _ _)
@[simp] theorem Part.onTally_frame (slot : JobSlot) (f : Tally → Tally) :
    (Part.onTally p slot f).choices = p.choices ∧ (Part.onTally p slot f).path = p.path ∧
    (Part.onTally p slot f).servo = p.servo ∧ (Part.onTally p slot f).angle = p.angle ∧
    (Part.onTally p slot f).timer = p.timer ∧ (Part.onTally p slot f).scanner = p.scanner ∧
    (Part.onTally p slot f).sender = p.sender ∧ (Part.onTally p slot f).status = p.status := by
  simp [Part.onTally, choices_ite, path_ite, servo_ite, angle_ite, timer_ite, scanner_ite, sender_ite, status_ite]

@[simp] theorem Part.onSenderTally_still (f : Tally → Tally) : (Part.onSenderTally p f).still = p.still := by
  unfold Part.onSenderTally; split <;> simp [still_ite]
@[simp] theorem Part.onSenderTally_keeps (f : Tally → Tally) : Keeps (Part.onSenderTally p f) p :=
  Still.keeps (Part.onSenderTally_still _ _)
@[simp] theorem Part.onSenderTally_frame (f : Tally → Tally) :
    (Part.onSenderTally p f).choices = p.choices ∧ (Part.onSenderTally p f).path = p.path ∧
    (Part.onSenderTally p f).servo = p.servo ∧ (Part.onSenderTally p f).angle = p.angle ∧
    (Part.onSenderTally p f).timer = p.timer ∧ (Part.onSenderTally p f).scanner = p.scanner ∧
    (Part.onSenderTally p f).sender = p.sender ∧ (Part.onSenderTally p f).status = p.status := by
  unfold Part.onSenderTally; split <;> simp [choices_ite, path_ite, servo_ite, angle_ite, timer_ite, scanner_ite, sender_ite, status_ite]

@[simp] theorem Part.setCauses_still (pending fresh : Byte) : (Part.setCauses p pending fresh).still = p.still := by
  simp [Part.setCauses, still_ite]
@[simp] theorem Part.setCauses_keeps (pending fresh : Byte) : Keeps (Part.setCauses p pending fresh) p :=
  Still.keeps (Part.setCauses_still _ _ _)
@[simp] theorem Part.setCauses_frame (pending fresh : Byte) :
    (Part.setCauses p pending fresh).choices = p.choices ∧ (Part.setCauses p pending fresh).path = p.path ∧
    (Part.setCauses p pending fresh).disp = p.disp ∧ (Part.setCauses p pending fresh).servo = p.servo ∧
    (Part.setCauses p pending fresh).angle = p.angle ∧ (Part.setCauses p pending fresh).timer = p.timer ∧
    (Part.setCauses p pending fresh).scanner = p.scanner ∧
    (Part.setCauses p pending fresh).sender = p.sender := by
  simp [Part.setCauses, choices_ite, path_ite, disp_ite, servo_ite, angle_ite, timer_ite, scanner_ite, sender_ite]

@[simp] theorem Part.raise_still (c : Attention) : (Part.raise p c).still = p.still := by
  simp [Part.raise, still_ite]
@[simp] theorem Part.raise_keeps (c : Attention) : Keeps (Part.raise p c) p :=
  Still.keeps (Part.raise_still _ _)
@[simp] theorem Part.raise_frame (c : Attention) :
    (Part.raise p c).choices = p.choices ∧ (Part.raise p c).path = p.path ∧ (Part.raise p c).disp = p.disp ∧
    (Part.raise p c).servo = p.servo ∧ (Part.raise p c).angle = p.angle ∧ (Part.raise p c).timer = p.timer ∧
    (Part.raise p c).scanner = p.scanner ∧ (Part.raise p c).sender = p.sender := by
  simp [Part.raise, choices_ite, path_ite, disp_ite, servo_ite, angle_ite, timer_ite, scanner_ite, sender_ite]

@[simp] theorem markChanges_still (before after : Part) : (markChanges before after).still = after.still := by
  simp [markChanges, still_ite]
@[simp] theorem markChanges_keeps (before after : Part) : Keeps (markChanges before after) after :=
  Still.keeps (markChanges_still _ _)
@[simp] theorem markChanges_frame (before after : Part) :
    (markChanges before after).choices = after.choices ∧ (markChanges before after).path = after.path ∧
    (markChanges before after).disp = after.disp ∧ (markChanges before after).servo = after.servo ∧
    (markChanges before after).angle = after.angle ∧ (markChanges before after).timer = after.timer ∧
    (markChanges before after).scanner = after.scanner ∧ (markChanges before after).sender = after.sender := by
  simp [markChanges, choices_ite, path_ite, disp_ite, servo_ite, angle_ite, timer_ite, scanner_ite, sender_ite]

@[simp] theorem Part.grant_still (r : Requester) : (Part.grant p r).still = p.still := by
  unfold Part.grant; split <;> simp [still_ite]
@[simp] theorem Part.grant_keeps (r : Requester) : Keeps (Part.grant p r) p :=
  Still.keeps (Part.grant_still _ _)
@[simp] theorem Part.grant_frame (r : Requester) :
    (Part.grant p r).choices = p.choices ∧ (Part.grant p r).disp = p.disp ∧ (Part.grant p r).servo = p.servo ∧
    (Part.grant p r).angle = p.angle ∧ (Part.grant p r).timer = p.timer ∧ (Part.grant p r).sender = p.sender ∧
    (Part.grant p r).status = p.status := by
  unfold Part.grant; split <;> simp [choices_ite, disp_ite, servo_ite, angle_ite, timer_ite, sender_ite, status_ite]

@[simp] theorem grantIdle_still : (grantIdle p).still = p.still := by
  unfold grantIdle; split <;> simp [still_ite]
@[simp] theorem grantIdle_keeps : Keeps (grantIdle p) p :=
  Still.keeps (grantIdle_still _)
@[simp] theorem grantIdle_frame :
    (grantIdle p).choices = p.choices ∧ (grantIdle p).disp = p.disp ∧ (grantIdle p).servo = p.servo ∧
    (grantIdle p).angle = p.angle ∧ (grantIdle p).timer = p.timer ∧ (grantIdle p).sender = p.sender ∧
    (grantIdle p).status = p.status := by
  unfold grantIdle; split <;> simp [choices_ite, disp_ite, servo_ite, angle_ite, timer_ite, sender_ite, status_ite]

@[simp] theorem Part.withdraw_still (r : Requester) : (Part.withdraw p r).still = p.still := by
  simp [Part.withdraw, still_ite]
@[simp] theorem Part.withdraw_keeps (r : Requester) : Keeps (Part.withdraw p r) p :=
  Still.keeps (Part.withdraw_still _ _)
@[simp] theorem Part.withdraw_frame (r : Requester) :
    (Part.withdraw p r).choices = p.choices ∧ (Part.withdraw p r).disp = p.disp ∧
    (Part.withdraw p r).servo = p.servo ∧ (Part.withdraw p r).angle = p.angle ∧
    (Part.withdraw p r).timer = p.timer ∧ (Part.withdraw p r).scanner = p.scanner ∧
    (Part.withdraw p r).sender = p.sender ∧ (Part.withdraw p r).status = p.status := by
  simp [Part.withdraw, choices_ite, disp_ite, servo_ite, angle_ite, timer_ite, scanner_ite, sender_ite, status_ite]

@[simp] theorem Part.onDemands_still (f : Demands → Demands) : (Part.onDemands p f).still = p.still := by
  simp [Part.onDemands, still_ite]
@[simp] theorem Part.onDemands_keeps (f : Demands → Demands) : Keeps (Part.onDemands p f) p :=
  Still.keeps (Part.onDemands_still _ _)
@[simp] theorem Part.onDemands_frame (f : Demands → Demands) :
    (Part.onDemands p f).choices = p.choices ∧ (Part.onDemands p f).path = p.path ∧
    (Part.onDemands p f).disp = p.disp ∧ (Part.onDemands p f).angle = p.angle ∧
    (Part.onDemands p f).timer = p.timer ∧ (Part.onDemands p f).scanner = p.scanner ∧
    (Part.onDemands p f).sender = p.sender ∧ (Part.onDemands p f).status = p.status := by
  simp [Part.onDemands, choices_ite, path_ite, disp_ite, angle_ite, timer_ite, scanner_ite, sender_ite, status_ite]

@[simp] theorem armIfWaiting_still : (armIfWaiting p).still = p.still := by
  simp [armIfWaiting, still_ite]
@[simp] theorem armIfWaiting_keeps : Keeps (armIfWaiting p) p :=
  Still.keeps (armIfWaiting_still _)
@[simp] theorem armIfWaiting_frame :
    (armIfWaiting p).choices = p.choices ∧ (armIfWaiting p).path = p.path ∧ (armIfWaiting p).disp = p.disp ∧
    (armIfWaiting p).servo = p.servo ∧ (armIfWaiting p).angle = p.angle ∧ (armIfWaiting p).timer = p.timer ∧
    (armIfWaiting p).sender = p.sender ∧ (armIfWaiting p).status = p.status := by
  simp [armIfWaiting, choices_ite, path_ite, disp_ite, servo_ite, angle_ite, timer_ite, sender_ite, status_ite]

@[simp] theorem loseLock_still : (loseLock p).still = p.still := by
  simp [loseLock, still_ite]
@[simp] theorem loseLock_keeps : Keeps (loseLock p) p :=
  Still.keeps (loseLock_still _)
@[simp] theorem loseLock_frame :
    (loseLock p).choices = p.choices ∧ (loseLock p).path = p.path ∧ (loseLock p).disp = p.disp ∧
    (loseLock p).angle = p.angle ∧ (loseLock p).timer = p.timer ∧ (loseLock p).sender = p.sender ∧
    (loseLock p).status = p.status := by
  simp [loseLock, choices_ite, path_ite, disp_ite, angle_ite, timer_ite, sender_ite, status_ite]

@[simp] theorem gainLock_still : (gainLock p).still = p.still := by
  simp [gainLock, still_ite]
@[simp] theorem gainLock_keeps : Keeps (gainLock p) p :=
  Still.keeps (gainLock_still _)
@[simp] theorem gainLock_frame :
    (gainLock p).choices = p.choices ∧ (gainLock p).path = p.path ∧ (gainLock p).disp = p.disp ∧
    (gainLock p).angle = p.angle ∧ (gainLock p).timer = p.timer ∧ (gainLock p).sender = p.sender := by
  simp [gainLock, choices_ite, path_ite, disp_ite, angle_ite, timer_ite, sender_ite]

@[simp] theorem enterStopped_still : (enterStopped p).still = p.still := by
  simp [enterStopped, still_ite]
@[simp] theorem enterStopped_keeps : Keeps (enterStopped p) p :=
  Still.keeps (enterStopped_still _)
@[simp] theorem enterStopped_frame :
    (enterStopped p).choices = p.choices ∧ (enterStopped p).path = p.path ∧ (enterStopped p).disp = p.disp ∧
    (enterStopped p).timer = p.timer ∧ (enterStopped p).scanner = p.scanner ∧
    (enterStopped p).sender = p.sender ∧ (enterStopped p).status = p.status := by
  simp [enterStopped, choices_ite, path_ite, disp_ite, timer_ite, scanner_ite, sender_ite, status_ite]

@[simp] theorem setDrum_still (d : DrumState) : (setDrum d p).still = p.still := by
  unfold setDrum; (repeat' split) <;> simp [still_ite]
@[simp] theorem setDrum_keeps (d : DrumState) : Keeps (setDrum d p) p :=
  Still.keeps (setDrum_still _ _)
@[simp] theorem setDrum_frame (d : DrumState) :
    (setDrum d p).choices = p.choices ∧ (setDrum d p).path = p.path ∧ (setDrum d p).disp = p.disp ∧
    (setDrum d p).timer = p.timer ∧ (setDrum d p).sender = p.sender := by
  unfold setDrum; (repeat' split) <;> simp [choices_ite, path_ite, disp_ite, timer_ite, sender_ite]

@[simp] theorem setDuty_still (d : Nat) : (setDuty d p).still = p.still := by
  simp [setDuty, still_ite]
@[simp] theorem setDuty_keeps (d : Nat) : Keeps (setDuty d p) p :=
  Still.keeps (setDuty_still _ _)
@[simp] theorem setDuty_frame (d : Nat) :
    (setDuty d p).choices = p.choices ∧ (setDuty d p).path = p.path ∧ (setDuty d p).disp = p.disp ∧
    (setDuty d p).angle = p.angle ∧ (setDuty d p).timer = p.timer ∧ (setDuty d p).scanner = p.scanner ∧
    (setDuty d p).sender = p.sender ∧ (setDuty d p).status = p.status := by
  simp [setDuty, choices_ite, path_ite, disp_ite, angle_ite, timer_ite, scanner_ite, sender_ite, status_ite]

@[simp] theorem clearRuns_still : (clearRuns p).still = p.still := by
  simp [clearRuns, still_ite]
@[simp] theorem clearRuns_keeps : Keeps (clearRuns p) p :=
  Still.keeps (clearRuns_still _)
@[simp] theorem clearRuns_frame :
    (clearRuns p).choices = p.choices ∧ (clearRuns p).path = p.path ∧ (clearRuns p).disp = p.disp ∧
    (clearRuns p).angle = p.angle ∧ (clearRuns p).timer = p.timer ∧ (clearRuns p).scanner = p.scanner ∧
    (clearRuns p).sender = p.sender ∧ (clearRuns p).status = p.status := by
  simp [clearRuns, choices_ite, path_ite, disp_ite, angle_ite, timer_ite, scanner_ite, sender_ite, status_ite]

@[simp] theorem enterLocking_still : (enterLocking p).still = p.still := by
  simp [enterLocking, still_ite]
@[simp] theorem enterLocking_keeps : Keeps (enterLocking p) p :=
  Still.keeps (enterLocking_still _)
@[simp] theorem enterLocking_frame :
    (enterLocking p).choices = p.choices ∧ (enterLocking p).path = p.path ∧ (enterLocking p).disp = p.disp ∧
    (enterLocking p).timer = p.timer ∧ (enterLocking p).sender = p.sender := by
  simp [enterLocking, choices_ite, path_ite, disp_ite, timer_ite, sender_ite]

@[simp] theorem enterSpinup_still : (enterSpinup p).still = p.still := by
  simp [enterSpinup, still_ite]
@[simp] theorem enterSpinup_keeps : Keeps (enterSpinup p) p :=
  Still.keeps (enterSpinup_still _)
@[simp] theorem enterSpinup_frame :
    (enterSpinup p).choices = p.choices ∧ (enterSpinup p).path = p.path ∧ (enterSpinup p).disp = p.disp ∧
    (enterSpinup p).timer = p.timer ∧ (enterSpinup p).sender = p.sender := by
  simp [enterSpinup, choices_ite, path_ite, disp_ite, timer_ite, sender_ite]

@[simp] theorem clearQuiet_still : (clearQuiet p).still = p.still := by
  simp [clearQuiet, still_ite]
@[simp] theorem clearQuiet_keeps : Keeps (clearQuiet p) p :=
  Still.keeps (clearQuiet_still _)
@[simp] theorem clearQuiet_frame :
    (clearQuiet p).choices = p.choices ∧ (clearQuiet p).path = p.path ∧ (clearQuiet p).disp = p.disp ∧
    (clearQuiet p).angle = p.angle ∧ (clearQuiet p).timer = p.timer ∧ (clearQuiet p).scanner = p.scanner ∧
    (clearQuiet p).sender = p.sender ∧ (clearQuiet p).status = p.status := by
  simp [clearQuiet, choices_ite, path_ite, disp_ite, angle_ite, timer_ite, scanner_ite, sender_ite, status_ite]

@[simp] theorem changeTarget_still : (changeTarget p).still = p.still := by
  simp only [changeTarget]; split <;> simp [still_ite] <;> split <;> simp [still_ite]
@[simp] theorem changeTarget_keeps : Keeps (changeTarget p) p :=
  Still.keeps (changeTarget_still _)
@[simp] theorem changeTarget_frame :
    (changeTarget p).choices = p.choices ∧ (changeTarget p).path = p.path ∧ (changeTarget p).disp = p.disp ∧
    (changeTarget p).timer = p.timer ∧ (changeTarget p).sender = p.sender := by
  simp only [changeTarget]; split <;> simp [choices_ite, path_ite, disp_ite, timer_ite, sender_ite] <;> split <;> simp [choices_ite, path_ite, disp_ite, timer_ite, sender_ite]

@[simp] theorem enterSpindown_still : (enterSpindown p).still = p.still := by
  simp [enterSpindown, still_ite]
@[simp] theorem enterSpindown_keeps : Keeps (enterSpindown p) p :=
  Still.keeps (enterSpindown_still _)
@[simp] theorem enterSpindown_frame :
    (enterSpindown p).choices = p.choices ∧ (enterSpindown p).path = p.path ∧ (enterSpindown p).disp = p.disp ∧
    (enterSpindown p).timer = p.timer ∧ (enterSpindown p).sender = p.sender := by
  simp [enterSpindown, choices_ite, path_ite, disp_ite, timer_ite, sender_ite]

@[simp] theorem takeTarget_still (speed : Nat) : (takeTarget speed p).still = p.still := by
  simp only [takeTarget]; split <;> simp [still_ite] <;> split <;> simp [still_ite]
@[simp] theorem takeTarget_keeps (speed : Nat) : Keeps (takeTarget speed p) p :=
  Still.keeps (takeTarget_still _ _)
@[simp] theorem takeTarget_frame (speed : Nat) :
    (takeTarget speed p).choices = p.choices ∧ (takeTarget speed p).path = p.path ∧
    (takeTarget speed p).disp = p.disp ∧ (takeTarget speed p).timer = p.timer ∧
    (takeTarget speed p).sender = p.sender := by
  simp only [takeTarget]; split <;> simp [choices_ite, path_ite, disp_ite, timer_ite, sender_ite] <;> split <;> simp [choices_ite, path_ite, disp_ite, timer_ite, sender_ite]

@[simp] theorem dropTarget_still : (dropTarget p).still = p.still := by
  unfold dropTarget; split <;> simp [still_ite]
@[simp] theorem dropTarget_keeps : Keeps (dropTarget p) p :=
  Still.keeps (dropTarget_still _)
@[simp] theorem dropTarget_frame :
    (dropTarget p).choices = p.choices ∧ (dropTarget p).path = p.path ∧ (dropTarget p).disp = p.disp ∧
    (dropTarget p).timer = p.timer ∧ (dropTarget p).sender = p.sender := by
  unfold dropTarget; split <;> simp [choices_ite, path_ite, disp_ite, timer_ite, sender_ite]

@[simp] theorem tidyServo_still : (tidyServo p).still = p.still := by
  simp [tidyServo, still_ite]
@[simp] theorem tidyServo_keeps : Keeps (tidyServo p) p :=
  Still.keeps (tidyServo_still _)
@[simp] theorem tidyServo_frame :
    (tidyServo p).choices = p.choices ∧ (tidyServo p).path = p.path ∧ (tidyServo p).disp = p.disp ∧
    (tidyServo p).angle = p.angle ∧ (tidyServo p).timer = p.timer ∧ (tidyServo p).scanner = p.scanner ∧
    (tidyServo p).sender = p.sender ∧ (tidyServo p).status = p.status := by
  simp [tidyServo, choices_ite, path_ite, disp_ite, angle_ite, timer_ite, scanner_ite, sender_ite, status_ite]

@[simp] theorem actOnDemand_still (was : Option Nat) : (actOnDemand was p).still = p.still := by
  simp only [actOnDemand]; split
  · simp
  · split <;> simp
@[simp] theorem actOnDemand_keeps (was : Option Nat) : Keeps (actOnDemand was p) p :=
  Still.keeps (actOnDemand_still p was)
@[simp] theorem actOnDemand_frame (was : Option Nat) :
    (actOnDemand was p).choices = p.choices ∧ (actOnDemand was p).path = p.path ∧
    (actOnDemand was p).disp = p.disp ∧ (actOnDemand was p).timer = p.timer ∧
    (actOnDemand was p).sender = p.sender := by
  simp only [actOnDemand]; split
  · simp
  · split <;> simp

/-- A change of the demand in force that is left open changes the mark of it alone. -/
@[simp] theorem leaveDemand_servo (was : Option Nat) :
    (leaveDemand was p).servo =
      { p.servo with unsettled := if was = p.servo.demands.inForce then none else some was } := rfl
@[simp] theorem leaveDemand_still (was : Option Nat) : (leaveDemand was p).still = p.still := by
  simp [leaveDemand]
@[simp] theorem leaveDemand_keeps (was : Option Nat) : Keeps (leaveDemand was p) p :=
  Still.keeps (leaveDemand_still p was)
@[simp] theorem leaveDemand_frame (was : Option Nat) :
    (leaveDemand was p).choices = p.choices ∧ (leaveDemand was p).path = p.path ∧
    (leaveDemand was p).disp = p.disp ∧ (leaveDemand was p).angle = p.angle ∧
    (leaveDemand was p).timer = p.timer ∧ (leaveDemand was p).scanner = p.scanner ∧
    (leaveDemand was p).sender = p.sender ∧ (leaveDemand was p).status = p.status :=
  ⟨rfl, rfl, rfl, rfl, rfl, rfl, rfl, rfl⟩

@[simp] theorem settleDemand_still (awaits : Bool) (before after : Part) :
    (settleDemand awaits before after).still = after.still := by
  cases awaits <;> simp [settleDemand]
@[simp] theorem settleDemand_keeps (awaits : Bool) (before after : Part) :
    Keeps (settleDemand awaits before after) after := Still.keeps (settleDemand_still _ _ _)
@[simp] theorem settleDemand_frame (awaits : Bool) (before after : Part) :
    (settleDemand awaits before after).choices = after.choices ∧
    (settleDemand awaits before after).path = after.path ∧
    (settleDemand awaits before after).disp = after.disp ∧
    (settleDemand awaits before after).timer = after.timer ∧
    (settleDemand awaits before after).sender = after.sender := by
  cases awaits <;> simp [settleDemand]

@[simp] theorem releaseHand_still : (releaseHand p).still = p.still := by
  unfold releaseHand; (repeat' split) <;> simp [still_ite]
@[simp] theorem releaseHand_keeps : Keeps (releaseHand p) p :=
  Still.keeps (releaseHand_still _)
@[simp] theorem releaseHand_frame :
    (releaseHand p).choices = p.choices ∧ (releaseHand p).disp = p.disp ∧ (releaseHand p).servo = p.servo ∧
    (releaseHand p).angle = p.angle ∧ (releaseHand p).timer = p.timer := by
  unfold releaseHand; (repeat' split) <;> simp [choices_ite, disp_ite, servo_ite, angle_ite, timer_ite]

@[simp] theorem enterStop_still : (enterStop p).still = p.still := by
  simp [enterStop, still_ite]
@[simp] theorem enterStop_keeps : Keeps (enterStop p) p :=
  Still.keeps (enterStop_still _)
@[simp] theorem enterStop_frame :
    (enterStop p).choices = p.choices ∧ (enterStop p).disp = p.disp ∧ (enterStop p).servo = p.servo ∧
    (enterStop p).angle = p.angle ∧ (enterStop p).timer = p.timer := by
  simp [enterStop, choices_ite, disp_ite, servo_ite, angle_ite, timer_ite]

@[simp] theorem stopTimer_still : (stopTimer p).still = p.still := by
  simp [stopTimer, still_ite]
@[simp] theorem stopTimer_keeps : Keeps (stopTimer p) p :=
  Still.keeps (stopTimer_still _)
@[simp] theorem stopTimer_frame :
    (stopTimer p).choices = p.choices ∧ (stopTimer p).path = p.path ∧ (stopTimer p).disp = p.disp ∧
    (stopTimer p).servo = p.servo ∧ (stopTimer p).angle = p.angle ∧ (stopTimer p).scanner = p.scanner ∧
    (stopTimer p).sender = p.sender ∧ (stopTimer p).status = p.status := by
  simp [stopTimer, choices_ite, path_ite, disp_ite, servo_ite, angle_ite, scanner_ite, sender_ite, status_ite]

@[simp] theorem startTimer_still (serves : Serves) (speed : Nat) : (startTimer serves speed p).still = p.still := by
  simp [startTimer, still_ite]
@[simp] theorem startTimer_keeps (serves : Serves) (speed : Nat) : Keeps (startTimer serves speed p) p :=
  Still.keeps (startTimer_still _ _ _)
@[simp] theorem startTimer_frame (serves : Serves) (speed : Nat) :
    (startTimer serves speed p).choices = p.choices ∧ (startTimer serves speed p).path = p.path ∧
    (startTimer serves speed p).disp = p.disp ∧ (startTimer serves speed p).servo = p.servo ∧
    (startTimer serves speed p).angle = p.angle ∧ (startTimer serves speed p).scanner = p.scanner ∧
    (startTimer serves speed p).sender = p.sender ∧ (startTimer serves speed p).status = p.status := by
  simp [startTimer, choices_ite, path_ite, disp_ite, servo_ite, angle_ite, scanner_ite, sender_ite, status_ite]

@[simp] theorem markSenderDone_still : (markSenderDone p).still = p.still := by
  unfold markSenderDone; split <;> simp [still_ite]
@[simp] theorem markSenderDone_keeps : Keeps (markSenderDone p) p :=
  Still.keeps (markSenderDone_still _)
@[simp] theorem markSenderDone_frame :
    (markSenderDone p).choices = p.choices ∧ (markSenderDone p).path = p.path ∧
    (markSenderDone p).servo = p.servo ∧ (markSenderDone p).angle = p.angle ∧
    (markSenderDone p).timer = p.timer ∧ (markSenderDone p).scanner = p.scanner ∧
    (markSenderDone p).sender = p.sender ∧ (markSenderDone p).status = p.status := by
  unfold markSenderDone; split <;> simp [choices_ite, path_ite, servo_ite, angle_ite, timer_ite, scanner_ite, sender_ite, status_ite]

@[simp] theorem senderIdle_still : (senderIdle p).still = p.still := by
  simp [senderIdle, still_ite]
@[simp] theorem senderIdle_keeps : Keeps (senderIdle p) p :=
  Still.keeps (senderIdle_still _)
@[simp] theorem senderIdle_frame :
    (senderIdle p).choices = p.choices ∧ (senderIdle p).angle = p.angle := by
  simp [senderIdle, choices_ite, angle_ite]

@[simp] theorem setShort_still (slot : JobSlot) : (setShort slot p).still = p.still := by
  simp [setShort, still_ite]
@[simp] theorem setShort_keeps (slot : JobSlot) : Keeps (setShort slot p) p :=
  Still.keeps (setShort_still _ _)
@[simp] theorem setShort_frame (slot : JobSlot) :
    (setShort slot p).choices = p.choices ∧ (setShort slot p).path = p.path ∧
    (setShort slot p).servo = p.servo ∧ (setShort slot p).angle = p.angle ∧ (setShort slot p).timer = p.timer ∧
    (setShort slot p).scanner = p.scanner ∧ (setShort slot p).sender = p.sender ∧
    (setShort slot p).status = p.status := by
  simp [setShort, choices_ite, path_ite, servo_ite, angle_ite, timer_ite, scanner_ite, sender_ite, status_ite]

@[simp] theorem setNotHome_still : (setNotHome p).still = p.still := by
  simp [setNotHome, still_ite]
@[simp] theorem setNotHome_keeps : Keeps (setNotHome p) p :=
  Still.keeps (setNotHome_still _)
@[simp] theorem setNotHome_frame :
    (setNotHome p).choices = p.choices ∧ (setNotHome p).path = p.path ∧ (setNotHome p).servo = p.servo ∧
    (setNotHome p).angle = p.angle ∧ (setNotHome p).timer = p.timer ∧ (setNotHome p).scanner = p.scanner ∧
    (setNotHome p).sender = p.sender ∧ (setNotHome p).status = p.status := by
  simp [setNotHome, choices_ite, path_ite, servo_ite, angle_ite, timer_ite, scanner_ite, sender_ite, status_ite]

@[simp] theorem setKeepUsed_still : (setKeepUsed p).still = p.still := by
  simp [setKeepUsed, still_ite]
@[simp] theorem setKeepUsed_keeps : Keeps (setKeepUsed p) p :=
  Still.keeps (setKeepUsed_still _)
@[simp] theorem setKeepUsed_frame :
    (setKeepUsed p).choices = p.choices ∧ (setKeepUsed p).path = p.path ∧ (setKeepUsed p).servo = p.servo ∧
    (setKeepUsed p).angle = p.angle ∧ (setKeepUsed p).timer = p.timer ∧ (setKeepUsed p).scanner = p.scanner ∧
    (setKeepUsed p).sender = p.sender ∧ (setKeepUsed p).status = p.status := by
  simp [setKeepUsed, choices_ite, path_ite, servo_ite, angle_ite, timer_ite, scanner_ite, sender_ite, status_ite]

@[simp] theorem setReferences_still (white black : Nat) : (setReferences white black p).still = p.still := by
  simp [setReferences, still_ite]
@[simp] theorem setReferences_keeps (white black : Nat) : Keeps (setReferences white black p) p :=
  Still.keeps (setReferences_still _ _ _)
@[simp] theorem setReferences_frame (white black : Nat) :
    (setReferences white black p).choices = p.choices ∧ (setReferences white black p).path = p.path ∧
    (setReferences white black p).servo = p.servo ∧ (setReferences white black p).angle = p.angle ∧
    (setReferences white black p).timer = p.timer ∧ (setReferences white black p).sender = p.sender ∧
    (setReferences white black p).status = p.status := by
  simp [setReferences, choices_ite, path_ite, servo_ite, angle_ite, timer_ite, sender_ite, status_ite]

@[simp] theorem leaveScan_still : (leaveScan p).still = p.still := by
  simp [leaveScan, still_ite]
@[simp] theorem leaveScan_keeps : Keeps (leaveScan p) p :=
  Still.keeps (leaveScan_still _)
@[simp] theorem leaveScan_frame :
    (leaveScan p).choices = p.choices ∧ (leaveScan p).disp = p.disp ∧ (leaveScan p).servo = p.servo ∧
    (leaveScan p).angle = p.angle ∧ (leaveScan p).timer = p.timer ∧ (leaveScan p).sender = p.sender ∧
    (leaveScan p).status = p.status := by
  simp [leaveScan, choices_ite, disp_ite, servo_ite, angle_ite, timer_ite, sender_ite, status_ite]

@[simp] theorem scannerIdle_still : (scannerIdle p).still = p.still := by
  simp [scannerIdle, still_ite]
@[simp] theorem scannerIdle_keeps : Keeps (scannerIdle p) p :=
  Still.keeps (scannerIdle_still _)
@[simp] theorem scannerIdle_frame :
    (scannerIdle p).choices = p.choices ∧ (scannerIdle p).path = p.path ∧ (scannerIdle p).angle = p.angle ∧
    (scannerIdle p).timer = p.timer ∧ (scannerIdle p).sender = p.sender ∧
    (scannerIdle p).status = p.status := by
  simp [scannerIdle, choices_ite, path_ite, angle_ite, timer_ite, sender_ite, status_ite]

@[simp] theorem returnFound_still : (returnFound p).still = p.still := by
  simp [returnFound, still_ite]
@[simp] theorem returnFound_keeps : Keeps (returnFound p) p :=
  Still.keeps (returnFound_still _)
@[simp] theorem returnFound_frame :
    (returnFound p).choices = p.choices ∧ (returnFound p).path = p.path ∧ (returnFound p).angle = p.angle ∧
    (returnFound p).timer = p.timer ∧ (returnFound p).sender = p.sender ∧
    (returnFound p).status = p.status := by
  simp [returnFound, choices_ite, path_ite, angle_ite, timer_ite, sender_ite, status_ite]

@[simp] theorem startHoming_still : (startHoming p).still = p.still := by
  simp [startHoming, still_ite]
@[simp] theorem startHoming_keeps : Keeps (startHoming p) p :=
  Still.keeps (startHoming_still _)
@[simp] theorem startHoming_frame :
    (startHoming p).choices = p.choices ∧ (startHoming p).path = p.path ∧ (startHoming p).disp = p.disp ∧
    (startHoming p).servo = p.servo ∧ (startHoming p).angle = p.angle ∧ (startHoming p).timer = p.timer ∧
    (startHoming p).sender = p.sender ∧ (startHoming p).status = p.status := by
  simp [startHoming, choices_ite, path_ite, disp_ite, servo_ite, angle_ite, timer_ite, sender_ite, status_ite]

@[simp] theorem enterReturn_still : (enterReturn p).still = p.still := by
  simp only [enterReturn, still_ite]; (repeat' split) <;> simp [still_ite]
@[simp] theorem enterReturn_keeps : Keeps (enterReturn p) p :=
  Still.keeps (enterReturn_still _)
@[simp] theorem enterReturn_frame :
    (enterReturn p).choices = p.choices ∧ (enterReturn p).path = p.path ∧ (enterReturn p).angle = p.angle ∧
    (enterReturn p).timer = p.timer ∧ (enterReturn p).sender = p.sender ∧
    (enterReturn p).status = p.status := by
  simp only [enterReturn, choices_ite, path_ite, angle_ite, timer_ite, sender_ite, status_ite]; (repeat' split) <;> simp [choices_ite, path_ite, angle_ite, timer_ite, sender_ite, status_ite]

@[simp] theorem windDownScanner_still : (windDownScanner p).still = p.still := by
  unfold windDownScanner; split <;> simp [still_ite]
@[simp] theorem windDownScanner_keeps : Keeps (windDownScanner p) p :=
  Still.keeps (windDownScanner_still _)
@[simp] theorem windDownScanner_frame :
    (windDownScanner p).choices = p.choices ∧ (windDownScanner p).angle = p.angle ∧
    (windDownScanner p).timer = p.timer ∧ (windDownScanner p).sender = p.sender ∧
    (windDownScanner p).status = p.status := by
  unfold windDownScanner; split <;> simp [choices_ite, angle_ite, timer_ite, sender_ite, status_ite]

@[simp] theorem windDownSender_still (cause : Cause) : (windDownSender cause p).still = p.still := by
  unfold windDownSender; split <;> simp [still_ite]
@[simp] theorem windDownSender_keeps (cause : Cause) : Keeps (windDownSender cause p) p :=
  Still.keeps (windDownSender_still _ _)
@[simp] theorem windDownSender_frame (cause : Cause) :
    (windDownSender cause p).choices = p.choices ∧ (windDownSender cause p).angle = p.angle := by
  unfold windDownSender; split <;> simp [choices_ite, angle_ite]

@[simp] theorem windDown_still (slot : JobSlot) (cause : Cause) : (windDown slot cause p).still = p.still := by
  unfold windDown; split <;> simp [still_ite]
@[simp] theorem windDown_keeps (slot : JobSlot) (cause : Cause) : Keeps (windDown slot cause p) p :=
  Still.keeps (windDown_still _ _ _)
@[simp] theorem windDown_frame (slot : JobSlot) (cause : Cause) :
    (windDown slot cause p).choices = p.choices ∧ (windDown slot cause p).angle = p.angle := by
  unfold windDown; split <;> simp [choices_ite, angle_ite]

@[simp] theorem placeEvent_still (slot : JobSlot) (kind : Cause) (named : Named) :
    (placeEvent slot kind named p).still = p.still := by
  simp [placeEvent, still_ite]
@[simp] theorem placeEvent_keeps (slot : JobSlot) (kind : Cause) (named : Named) : Keeps (placeEvent slot kind named p) p :=
  Still.keeps (placeEvent_still _ _ _ _)
@[simp] theorem placeEvent_frame (slot : JobSlot) (kind : Cause) (named : Named) :
    (placeEvent slot kind named p).choices = p.choices ∧ (placeEvent slot kind named p).path = p.path ∧
    (placeEvent slot kind named p).servo = p.servo ∧ (placeEvent slot kind named p).angle = p.angle ∧
    (placeEvent slot kind named p).timer = p.timer ∧ (placeEvent slot kind named p).scanner = p.scanner ∧
    (placeEvent slot kind named p).sender = p.sender ∧ (placeEvent slot kind named p).status = p.status := by
  simp [placeEvent, choices_ite, path_ite, servo_ite, angle_ite, timer_ite, scanner_ite, sender_ite, status_ite]

@[simp] theorem switchToTimer_still (j : Job) (c : Cause) : (switchToTimer j c p).still = p.still := by
  simp [switchToTimer, still_ite]
@[simp] theorem switchToTimer_keeps (j : Job) (c : Cause) : Keeps (switchToTimer j c p) p :=
  Still.keeps (switchToTimer_still _ _ _)
@[simp] theorem switchToTimer_frame (j : Job) (c : Cause) :
    (switchToTimer j c p).choices = p.choices ∧ (switchToTimer j c p).path = p.path ∧
    (switchToTimer j c p).disp = p.disp ∧ (switchToTimer j c p).servo = p.servo ∧
    (switchToTimer j c p).angle = p.angle ∧ (switchToTimer j c p).scanner = p.scanner ∧
    (switchToTimer j c p).status = p.status := by
  simp [switchToTimer, choices_ite, path_ite, disp_ite, servo_ite, angle_ite, scanner_ite, status_ite]

@[simp] theorem offer_still (slot : JobSlot) (c : Cause) (named : Named) :
    (offer slot c named p).still = p.still := by
  unfold offer; split <;> simp [still_ite]
@[simp] theorem offer_keeps (slot : JobSlot) (c : Cause) (named : Named) : Keeps (offer slot c named p) p :=
  Still.keeps (offer_still _ _ _ _)
@[simp] theorem offer_frame (slot : JobSlot) (c : Cause) (named : Named) :
    (offer slot c named p).choices = p.choices ∧ (offer slot c named p).angle = p.angle := by
  unfold offer; split <;> simp [choices_ite, angle_ite]

@[simp] theorem offerSender_still (c : Cause) : (offerSender c p).still = p.still := by
  unfold offerSender; split <;> simp [still_ite]
@[simp] theorem offerSender_keeps (c : Cause) : Keeps (offerSender c p) p :=
  Still.keeps (offerSender_still _ _)
@[simp] theorem offerSender_frame (c : Cause) :
    (offerSender c p).choices = p.choices ∧ (offerSender c p).angle = p.angle := by
  unfold offerSender; split <;> simp [choices_ite, angle_ite]

@[simp] theorem queueSlip_still (s : Slip) : (queueSlip s p).still = p.still := by
  simp [queueSlip, still_ite]
@[simp] theorem queueSlip_keeps (s : Slip) : Keeps (queueSlip s p) p :=
  Still.keeps (queueSlip_still _ _)
@[simp] theorem queueSlip_frame (s : Slip) :
    (queueSlip s p).choices = p.choices ∧ (queueSlip s p).path = p.path ∧ (queueSlip s p).servo = p.servo ∧
    (queueSlip s p).angle = p.angle ∧ (queueSlip s p).timer = p.timer ∧ (queueSlip s p).scanner = p.scanner ∧
    (queueSlip s p).sender = p.sender ∧ (queueSlip s p).status = p.status := by
  simp [queueSlip, choices_ite, path_ite, servo_ite, angle_ite, timer_ite, scanner_ite, sender_ite, status_ite]

@[simp] theorem dropJob_still (slot : JobSlot) : (dropJob slot p).still = p.still := by
  unfold dropJob; split <;> simp [still_ite]
@[simp] theorem dropJob_keeps (slot : JobSlot) : Keeps (dropJob slot p) p :=
  Still.keeps (dropJob_still _ _)
@[simp] theorem dropJob_frame (slot : JobSlot) :
    (dropJob slot p).choices = p.choices ∧ (dropJob slot p).path = p.path ∧ (dropJob slot p).servo = p.servo ∧
    (dropJob slot p).angle = p.angle ∧ (dropJob slot p).timer = p.timer ∧ (dropJob slot p).scanner = p.scanner ∧
    (dropJob slot p).sender = p.sender ∧ (dropJob slot p).status = p.status := by
  unfold dropJob; split <;> simp [choices_ite, path_ite, servo_ite, angle_ite, timer_ite, scanner_ite, sender_ite, status_ite]

/-- The check of the gate changes the pending record alone, and of it the mark `held`. -/
@[simp] theorem checkGate_disp :
    (checkGate p).disp =
      { p.disp with pendingJob := p.disp.pendingJob.map fun r => { r with held := false } } := rfl
@[simp] theorem checkGate_still : (checkGate p).still = p.still := by simp [checkGate, still_ite]
@[simp] theorem checkGate_keeps : Keeps (checkGate p) p := Still.keeps (checkGate_still _)
@[simp] theorem checkGate_frame :
    (checkGate p).choices = p.choices ∧ (checkGate p).path = p.path ∧ (checkGate p).servo = p.servo ∧
    (checkGate p).angle = p.angle ∧ (checkGate p).timer = p.timer ∧ (checkGate p).scanner = p.scanner ∧
    (checkGate p).sender = p.sender ∧ (checkGate p).detector = p.detector ∧ (checkGate p).slips = p.slips ∧
    (checkGate p).status = p.status := ⟨rfl, rfl, rfl, rfl, rfl, rfl, rfl, rfl, rfl, rfl⟩

@[simp] theorem placeCarry_still (j : Job) : (placeCarry j p).still = p.still := by
  simp [placeCarry, still_ite]
@[simp] theorem placeCarry_keeps (j : Job) : Keeps (placeCarry j p) p :=
  Still.keeps (placeCarry_still _ _)
@[simp] theorem placeCarry_frame (j : Job) :
    (placeCarry j p).choices = p.choices ∧ (placeCarry j p).path = p.path ∧ (placeCarry j p).disp = p.disp ∧
    (placeCarry j p).angle = p.angle ∧ (placeCarry j p).timer = p.timer ∧ (placeCarry j p).scanner = p.scanner ∧
    (placeCarry j p).sender = p.sender ∧ (placeCarry j p).status = p.status := by
  simp [placeCarry, choices_ite, path_ite, disp_ite, angle_ite, timer_ite, scanner_ite, sender_ite, status_ite]

@[simp] theorem finishJob_still (slot : JobSlot) : (finishJob slot p).still = p.still := by
  unfold finishJob; split <;> simp [still_ite]
@[simp] theorem finishJob_keeps (slot : JobSlot) : Keeps (finishJob slot p) p :=
  Still.keeps (finishJob_still _ _)
@[simp] theorem finishJob_frame (slot : JobSlot) :
    (finishJob slot p).choices = p.choices ∧ (finishJob slot p).path = p.path ∧
    (finishJob slot p).angle = p.angle ∧ (finishJob slot p).timer = p.timer ∧
    (finishJob slot p).scanner = p.scanner ∧ (finishJob slot p).sender = p.sender ∧
    (finishJob slot p).status = p.status := by
  unfold finishJob; split <;> simp [choices_ite, path_ite, angle_ite, timer_ite, scanner_ite, sender_ite, status_ite]

@[simp] theorem finishJobs_still : (finishJobs p).still = p.still := by
  simp [finishJobs, still_ite]
@[simp] theorem finishJobs_keeps : Keeps (finishJobs p) p :=
  Still.keeps (finishJobs_still _)
@[simp] theorem finishJobs_frame :
    (finishJobs p).path = p.path ∧ (finishJobs p).angle = p.angle ∧ (finishJobs p).timer = p.timer ∧
    (finishJobs p).scanner = p.scanner ∧ (finishJobs p).sender = p.sender ∧
    (finishJobs p).status = p.status := by
  simp [finishJobs, path_ite, angle_ite, timer_ite, scanner_ite, sender_ite, status_ite]

@[simp] theorem closeEvent_still (before after : Part) : (closeEvent before after).still = after.still := by
  simp [closeEvent, still_ite]
@[simp] theorem closeEvent_keeps (before after : Part) : Keeps (closeEvent before after) after :=
  Still.keeps (closeEvent_still _ _)
@[simp] theorem closeEvent_frame (before after : Part) :
    (closeEvent before after).timer = after.timer ∧ (closeEvent before after).sender = after.sender := by
  simp [closeEvent, timer_ite, sender_ite]

@[simp] theorem startFetch_still : (startFetch p).still = p.still := by
  simp [startFetch, still_ite]
@[simp] theorem startFetch_keeps : Keeps (startFetch p) p :=
  Still.keeps (startFetch_still _)
@[simp] theorem startFetch_frame :
    (startFetch p).choices = p.choices ∧ (startFetch p).servo = p.servo ∧ (startFetch p).angle = p.angle ∧
    (startFetch p).timer = p.timer ∧ (startFetch p).scanner = p.scanner ∧ (startFetch p).sender = p.sender ∧
    (startFetch p).status = p.status := by
  simp [startFetch, choices_ite, servo_ite, angle_ite, timer_ite, scanner_ite, sender_ite, status_ite]

@[simp] theorem endFetch_still (bytes : List Byte) : (endFetch bytes p).still = p.still := by
  simp [endFetch, still_ite]
@[simp] theorem endFetch_keeps (bytes : List Byte) : Keeps (endFetch bytes p) p :=
  Still.keeps (endFetch_still _ _)
@[simp] theorem endFetch_frame (bytes : List Byte) :
    (endFetch bytes p).choices = p.choices ∧ (endFetch bytes p).servo = p.servo ∧
    (endFetch bytes p).angle = p.angle ∧ (endFetch bytes p).timer = p.timer ∧
    (endFetch bytes p).scanner = p.scanner ∧ (endFetch bytes p).sender = p.sender := by
  simp [endFetch, choices_ite, servo_ite, angle_ite, timer_ite, scanner_ite, sender_ite]

@[simp] theorem fetchByte_still (b : Byte) : (fetchByte b p).still = p.still := by
  unfold fetchByte; split <;> simp [still_ite]
@[simp] theorem fetchByte_keeps (b : Byte) : Keeps (fetchByte b p) p :=
  Still.keeps (fetchByte_still _ _)
@[simp] theorem fetchByte_frame (b : Byte) :
    (fetchByte b p).choices = p.choices ∧ (fetchByte b p).servo = p.servo ∧ (fetchByte b p).angle = p.angle ∧
    (fetchByte b p).timer = p.timer ∧ (fetchByte b p).scanner = p.scanner ∧
    (fetchByte b p).sender = p.sender := by
  unfold fetchByte; split <;> simp [choices_ite, servo_ite, angle_ite, timer_ite, scanner_ite, sender_ite]

@[simp] theorem placeJob_still (j : Job) : (placeJob j p).still = p.still := by
  simp [placeJob, still_ite]
@[simp] theorem placeJob_keeps (j : Job) : Keeps (placeJob j p) p :=
  Still.keeps (placeJob_still _ _)
@[simp] theorem placeJob_frame (j : Job) :
    (placeJob j p).choices = p.choices ∧ (placeJob j p).path = p.path ∧ (placeJob j p).servo = p.servo ∧
    (placeJob j p).angle = p.angle ∧ (placeJob j p).timer = p.timer ∧ (placeJob j p).scanner = p.scanner ∧
    (placeJob j p).sender = p.sender ∧ (placeJob j p).status = p.status := by
  simp [placeJob, choices_ite, path_ite, servo_ite, angle_ite, timer_ite, scanner_ite, sender_ite, status_ite]

@[simp] theorem startSender_still (s : JobSpec) : (startSender s p).still = p.still := by
  simp [startSender, still_ite]
@[simp] theorem startSender_keeps (s : JobSpec) : Keeps (startSender s p) p :=
  Still.keeps (startSender_still _ _)
@[simp] theorem startSender_frame (s : JobSpec) :
    (startSender s p).choices = p.choices ∧ (startSender s p).path = p.path ∧ (startSender s p).disp = p.disp ∧
    (startSender s p).servo = p.servo ∧ (startSender s p).angle = p.angle ∧
    (startSender s p).scanner = p.scanner ∧ (startSender s p).status = p.status := by
  simp [startSender, choices_ite, path_ite, disp_ite, servo_ite, angle_ite, scanner_ite, status_ite]

@[simp] theorem enterWarmup_still : (enterWarmup p).still = p.still := by
  simp [enterWarmup, still_ite]
@[simp] theorem enterWarmup_keeps : Keeps (enterWarmup p) p :=
  Still.keeps (enterWarmup_still _)
@[simp] theorem enterWarmup_frame :
    (enterWarmup p).choices = p.choices ∧ (enterWarmup p).path = p.path ∧ (enterWarmup p).disp = p.disp ∧
    (enterWarmup p).servo = p.servo ∧ (enterWarmup p).angle = p.angle ∧ (enterWarmup p).timer = p.timer ∧
    (enterWarmup p).sender = p.sender ∧ (enterWarmup p).status = p.status := by
  simp [enterWarmup, choices_ite, path_ite, disp_ite, servo_ite, angle_ite, timer_ite, sender_ite, status_ite]

@[simp] theorem enterHoming_still : (enterHoming p).still = p.still := by
  simp [enterHoming, still_ite]
@[simp] theorem enterHoming_keeps : Keeps (enterHoming p) p :=
  Still.keeps (enterHoming_still _)
@[simp] theorem enterHoming_frame :
    (enterHoming p).choices = p.choices ∧ (enterHoming p).path = p.path ∧ (enterHoming p).disp = p.disp ∧
    (enterHoming p).servo = p.servo ∧ (enterHoming p).angle = p.angle ∧ (enterHoming p).timer = p.timer ∧
    (enterHoming p).sender = p.sender ∧ (enterHoming p).status = p.status := by
  simp [enterHoming, choices_ite, path_ite, disp_ite, servo_ite, angle_ite, timer_ite, sender_ite, status_ite]

@[simp] theorem startScanner_still (s : JobSpec) : (startScanner s p).still = p.still := by
  simp [startScanner, still_ite]
@[simp] theorem startScanner_keeps (s : JobSpec) : Keeps (startScanner s p) p :=
  Still.keeps (startScanner_still _ _)
@[simp] theorem startScanner_frame (s : JobSpec) :
    (startScanner s p).choices = p.choices ∧ (startScanner s p).path = p.path ∧
    (startScanner s p).angle = p.angle ∧ (startScanner s p).timer = p.timer ∧
    (startScanner s p).sender = p.sender ∧ (startScanner s p).status = p.status := by
  simp [startScanner, choices_ite, path_ite, angle_ite, timer_ite, sender_ite, status_ite]

@[simp] theorem startJob_still (s : JobSpec) : (startJob s p).still = p.still := by
  unfold startJob; split <;> simp [still_ite]
@[simp] theorem startJob_keeps (s : JobSpec) : Keeps (startJob s p) p :=
  Still.keeps (startJob_still _ _)
@[simp] theorem startJob_frame (s : JobSpec) :
    (startJob s p).choices = p.choices ∧ (startJob s p).angle = p.angle := by
  unfold startJob; split <;> simp [choices_ite, angle_ite]

@[simp] theorem dispatchPending_still : (dispatchPending p).still = p.still := by
  unfold dispatchPending; split <;> simp [still_ite]
@[simp] theorem dispatchPending_keeps : Keeps (dispatchPending p) p :=
  Still.keeps (dispatchPending_still _)
@[simp] theorem dispatchPending_frame :
    (dispatchPending p).choices = p.choices ∧ (dispatchPending p).angle = p.angle := by
  unfold dispatchPending; split <;> simp [choices_ite, angle_ite]

@[simp] theorem takeJobProducer_still (b : Byte) : (takeJobProducer b p).still = p.still := by
  simp [takeJobProducer, still_ite]
@[simp] theorem takeJobProducer_keeps (b : Byte) : Keeps (takeJobProducer b p) p :=
  Still.keeps (takeJobProducer_still _ _)
@[simp] theorem takeJobProducer_frame (b : Byte) :
    (takeJobProducer b p).choices = p.choices ∧ (takeJobProducer b p).path = p.path ∧
    (takeJobProducer b p).servo = p.servo ∧ (takeJobProducer b p).angle = p.angle ∧
    (takeJobProducer b p).timer = p.timer ∧ (takeJobProducer b p).scanner = p.scanner ∧
    (takeJobProducer b p).sender = p.sender ∧ (takeJobProducer b p).status = p.status := by
  simp [takeJobProducer, choices_ite, path_ite, servo_ite, angle_ite, timer_ite, scanner_ite, sender_ite, status_ite]

@[simp] theorem countRejection_still : (countRejection p).still = p.still := by
  simp [countRejection, still_ite]
@[simp] theorem countRejection_keeps : Keeps (countRejection p) p :=
  Still.keeps (countRejection_still _)
@[simp] theorem countRejection_frame :
    (countRejection p).choices = p.choices ∧ (countRejection p).path = p.path ∧
    (countRejection p).servo = p.servo ∧ (countRejection p).angle = p.angle ∧
    (countRejection p).timer = p.timer ∧ (countRejection p).scanner = p.scanner ∧
    (countRejection p).sender = p.sender ∧ (countRejection p).status = p.status := by
  simp [countRejection, choices_ite, path_ite, servo_ite, angle_ite, timer_ite, scanner_ite, sender_ite, status_ite]

@[simp] theorem takeSlipConsumer_still (b : Byte) : (takeSlipConsumer b p).still = p.still := by
  simp [takeSlipConsumer, still_ite]
@[simp] theorem takeSlipConsumer_keeps (b : Byte) : Keeps (takeSlipConsumer b p) p :=
  Still.keeps (takeSlipConsumer_still _ _)
@[simp] theorem takeSlipConsumer_frame (b : Byte) :
    (takeSlipConsumer b p).choices = p.choices ∧ (takeSlipConsumer b p).path = p.path ∧
    (takeSlipConsumer b p).servo = p.servo ∧ (takeSlipConsumer b p).angle = p.angle ∧
    (takeSlipConsumer b p).timer = p.timer ∧ (takeSlipConsumer b p).scanner = p.scanner ∧
    (takeSlipConsumer b p).sender = p.sender ∧ (takeSlipConsumer b p).status = p.status := by
  simp [takeSlipConsumer, choices_ite, path_ite, servo_ite, angle_ite, timer_ite, scanner_ite, sender_ite, status_ite]

@[simp] theorem takeFeedProducer_still (b : Byte) : (takeFeedProducer b p).still = p.still := by
  simp [takeFeedProducer, still_ite]
@[simp] theorem takeFeedProducer_keeps (b : Byte) : Keeps (takeFeedProducer b p) p :=
  Still.keeps (takeFeedProducer_still _ _)
@[simp] theorem takeFeedProducer_frame (b : Byte) :
    (takeFeedProducer b p).choices = p.choices ∧ (takeFeedProducer b p).path = p.path ∧
    (takeFeedProducer b p).disp = p.disp ∧ (takeFeedProducer b p).servo = p.servo ∧
    (takeFeedProducer b p).angle = p.angle ∧ (takeFeedProducer b p).timer = p.timer ∧
    (takeFeedProducer b p).scanner = p.scanner ∧ (takeFeedProducer b p).status = p.status := by
  simp [takeFeedProducer, choices_ite, path_ite, disp_ite, servo_ite, angle_ite, timer_ite, scanner_ite, status_ite]

@[simp] theorem takeScanRelease_still (b : Byte) : (takeScanRelease b p).still = p.still := by
  simp [takeScanRelease, still_ite]
@[simp] theorem takeScanRelease_keeps (b : Byte) : Keeps (takeScanRelease b p) p :=
  Still.keeps (takeScanRelease_still _ _)
@[simp] theorem takeScanRelease_frame (b : Byte) :
    (takeScanRelease b p).choices = p.choices ∧ (takeScanRelease b p).path = p.path ∧
    (takeScanRelease b p).servo = p.servo ∧ (takeScanRelease b p).angle = p.angle ∧
    (takeScanRelease b p).timer = p.timer ∧ (takeScanRelease b p).sender = p.sender ∧
    (takeScanRelease b p).status = p.status := by
  simp [takeScanRelease, choices_ite, path_ite, servo_ite, angle_ite, timer_ite, sender_ite, status_ite]

@[simp] theorem echoCommand_still (code : Byte) (result : CommandResult) :
    (echoCommand code result p).still = p.still := by
  simp [echoCommand, still_ite]
@[simp] theorem echoCommand_keeps (code : Byte) (result : CommandResult) : Keeps (echoCommand code result p) p :=
  Still.keeps (echoCommand_still _ _ _)
@[simp] theorem echoCommand_frame (code : Byte) (result : CommandResult) :
    (echoCommand code result p).choices = p.choices ∧ (echoCommand code result p).path = p.path ∧
    (echoCommand code result p).servo = p.servo ∧ (echoCommand code result p).angle = p.angle ∧
    (echoCommand code result p).timer = p.timer ∧ (echoCommand code result p).scanner = p.scanner ∧
    (echoCommand code result p).sender = p.sender := by
  simp [echoCommand, choices_ite, path_ite, servo_ite, angle_ite, timer_ite, scanner_ite, sender_ite]

@[simp] theorem abortJob_still (slot : JobSlot) (named : Named) : (abortJob slot named p).still = p.still := by
  unfold abortJob; split <;> simp [still_ite]
@[simp] theorem abortJob_keeps (slot : JobSlot) (named : Named) : Keeps (abortJob slot named p) p :=
  Still.keeps (abortJob_still _ _ _)
@[simp] theorem abortJob_frame (slot : JobSlot) (named : Named) :
    (abortJob slot named p).choices = p.choices ∧ (abortJob slot named p).angle = p.angle := by
  unfold abortJob; split <;> simp [choices_ite, angle_ite]

@[simp] theorem takeAbortSend_still : (takeAbortSend p).2.still = p.still := by
  unfold takeAbortSend; split <;> simp [still_ite]
@[simp] theorem takeAbortSend_keeps : Keeps (takeAbortSend p).2 p :=
  Still.keeps (takeAbortSend_still _)
@[simp] theorem takeAbortSend_frame :
    (takeAbortSend p).2.choices = p.choices ∧ (takeAbortSend p).2.angle = p.angle := by
  unfold takeAbortSend; split <;> simp [choices_ite, angle_ite]

@[simp] theorem takeAbortScan_still : (takeAbortScan p).2.still = p.still := by
  unfold takeAbortScan; split <;> simp [still_ite]
@[simp] theorem takeAbortScan_keeps : Keeps (takeAbortScan p).2 p :=
  Still.keeps (takeAbortScan_still _)
@[simp] theorem takeAbortScan_frame :
    (takeAbortScan p).2.choices = p.choices ∧ (takeAbortScan p).2.angle = p.angle := by
  unfold takeAbortScan; split <;> simp [choices_ite, angle_ite]

@[simp] theorem takeAbortAll_still : (takeAbortAll p).2.still = p.still := by
  unfold takeAbortAll; split <;> simp [still_ite]
@[simp] theorem takeAbortAll_keeps : Keeps (takeAbortAll p).2 p :=
  Still.keeps (takeAbortAll_still _)
@[simp] theorem takeAbortAll_frame :
    (takeAbortAll p).2.choices = p.choices ∧ (takeAbortAll p).2.angle = p.angle := by
  unfold takeAbortAll; split <;> simp [choices_ite, angle_ite]

@[simp] theorem takeSpin_still : (takeSpin p).2.still = p.still := by
  unfold takeSpin; split <;> simp [still_ite]
@[simp] theorem takeSpin_keeps : Keeps (takeSpin p).2 p :=
  Still.keeps (takeSpin_still _)
@[simp] theorem takeSpin_frame :
    (takeSpin p).2.choices = p.choices ∧ (takeSpin p).2.path = p.path ∧ (takeSpin p).2.disp = p.disp ∧
    (takeSpin p).2.angle = p.angle ∧ (takeSpin p).2.timer = p.timer ∧ (takeSpin p).2.scanner = p.scanner ∧
    (takeSpin p).2.sender = p.sender ∧ (takeSpin p).2.status = p.status := by
  unfold takeSpin; split <;> simp [choices_ite, path_ite, disp_ite, angle_ite, timer_ite, scanner_ite, sender_ite, status_ite]

@[simp] theorem takeReleaseSpin_still : (takeReleaseSpin p).2.still = p.still := by
  simp [takeReleaseSpin, still_ite]
@[simp] theorem takeReleaseSpin_keeps : Keeps (takeReleaseSpin p).2 p :=
  Still.keeps (takeReleaseSpin_still _)
@[simp] theorem takeReleaseSpin_frame :
    (takeReleaseSpin p).2.choices = p.choices ∧ (takeReleaseSpin p).2.path = p.path ∧
    (takeReleaseSpin p).2.disp = p.disp ∧ (takeReleaseSpin p).2.angle = p.angle ∧
    (takeReleaseSpin p).2.timer = p.timer ∧ (takeReleaseSpin p).2.scanner = p.scanner ∧
    (takeReleaseSpin p).2.sender = p.sender ∧ (takeReleaseSpin p).2.status = p.status := by
  simp [takeReleaseSpin, choices_ite, path_ite, disp_ite, angle_ite, timer_ite, scanner_ite, sender_ite, status_ite]

@[simp] theorem clearDispatcher_still : (clearDispatcher p).still = p.still := by
  simp [clearDispatcher, still_ite]
@[simp] theorem clearDispatcher_keeps : Keeps (clearDispatcher p) p :=
  Still.keeps (clearDispatcher_still _)
@[simp] theorem clearDispatcher_frame :
    (clearDispatcher p).choices = p.choices ∧ (clearDispatcher p).path = p.path ∧
    (clearDispatcher p).servo = p.servo ∧ (clearDispatcher p).angle = p.angle ∧
    (clearDispatcher p).timer = p.timer ∧ (clearDispatcher p).scanner = p.scanner ∧
    (clearDispatcher p).sender = p.sender ∧ (clearDispatcher p).status = p.status := by
  simp [clearDispatcher, choices_ite, path_ite, servo_ite, angle_ite, timer_ite, scanner_ite, sender_ite, status_ite]

@[simp] theorem clearServo_still : (clearServo p).still = p.still := by
  simp [clearServo, still_ite]
@[simp] theorem clearServo_keeps : Keeps (clearServo p) p :=
  Still.keeps (clearServo_still _)
@[simp] theorem clearServo_frame :
    (clearServo p).choices = p.choices ∧ (clearServo p).path = p.path ∧ (clearServo p).disp = p.disp ∧
    (clearServo p).timer = p.timer ∧ (clearServo p).sender = p.sender := by
  simp [clearServo, choices_ite, path_ite, disp_ite, timer_ite, sender_ite]

@[simp] theorem clearScanner_still : (clearScanner p).still = p.still := by
  simp [clearScanner, still_ite]
@[simp] theorem clearScanner_keeps : Keeps (clearScanner p) p :=
  Still.keeps (clearScanner_still _)
@[simp] theorem clearScanner_frame :
    (clearScanner p).choices = p.choices ∧ (clearScanner p).path = p.path ∧ (clearScanner p).disp = p.disp ∧
    (clearScanner p).servo = p.servo ∧ (clearScanner p).angle = p.angle ∧ (clearScanner p).timer = p.timer ∧
    (clearScanner p).sender = p.sender ∧ (clearScanner p).status = p.status := by
  simp [clearScanner, choices_ite, path_ite, disp_ite, servo_ite, angle_ite, timer_ite, sender_ite, status_ite]

@[simp] theorem clearSender_still : (clearSender p).still = p.still := by
  simp [clearSender, still_ite]
@[simp] theorem clearSender_keeps : Keeps (clearSender p) p :=
  Still.keeps (clearSender_still _)
@[simp] theorem clearSender_frame :
    (clearSender p).choices = p.choices ∧ (clearSender p).path = p.path ∧ (clearSender p).disp = p.disp ∧
    (clearSender p).servo = p.servo ∧ (clearSender p).angle = p.angle ∧ (clearSender p).timer = p.timer ∧
    (clearSender p).scanner = p.scanner ∧ (clearSender p).status = p.status := by
  simp [clearSender, choices_ite, path_ite, disp_ite, servo_ite, angle_ite, timer_ite, scanner_ite, status_ite]

@[simp] theorem clearSlips_frame :
    (clearSlips p).pins = p.pins ∧ (clearSlips p).phc = p.phc ∧ (clearSlips p).resetActive = p.resetActive ∧
    (clearSlips p).choices = p.choices ∧ (clearSlips p).clock = p.clock ∧ (clearSlips p).loader = p.loader ∧
    (clearSlips p).path = p.path ∧ (clearSlips p).disp = p.disp ∧ (clearSlips p).servo = p.servo ∧
    (clearSlips p).angle = p.angle ∧ (clearSlips p).timer = p.timer ∧ (clearSlips p).scanner = p.scanner ∧
    (clearSlips p).sender = p.sender ∧ (clearSlips p).detector = p.detector ∧ (clearSlips p).status = p.status ∧
    (clearSlips p).settings = p.settings ∧ (clearSlips p).derived = p.derived ∧
    (clearSlips p).placed = p.placed ∧ (clearSlips p).isOpen = p.isOpen := by
  simp [clearSlips, pins_ite, phc_ite, resetActive_ite, choices_ite, clock_ite, loader_ite, path_ite, disp_ite, servo_ite, angle_ite, timer_ite, scanner_ite, sender_ite, detector_ite, status_ite]

@[simp] theorem clearPath_still : (clearPath p).still = p.still := by
  simp [clearPath, still_ite]
@[simp] theorem clearPath_keeps : Keeps (clearPath p) p :=
  Still.keeps (clearPath_still _)
@[simp] theorem clearPath_frame :
    (clearPath p).choices = p.choices ∧ (clearPath p).disp = p.disp ∧ (clearPath p).servo = p.servo ∧
    (clearPath p).angle = p.angle ∧ (clearPath p).timer = p.timer ∧ (clearPath p).scanner = p.scanner ∧
    (clearPath p).sender = p.sender ∧ (clearPath p).status = p.status := by
  simp [clearPath, choices_ite, disp_ite, servo_ite, angle_ite, timer_ite, scanner_ite, sender_ite, status_ite]

@[simp] theorem clearStatus_still : (clearStatus p).still = p.still := by
  simp [clearStatus, still_ite]
@[simp] theorem clearStatus_keeps : Keeps (clearStatus p) p :=
  Still.keeps (clearStatus_still _)
@[simp] theorem clearStatus_frame :
    (clearStatus p).choices = p.choices ∧ (clearStatus p).path = p.path ∧ (clearStatus p).disp = p.disp ∧
    (clearStatus p).servo = p.servo ∧ (clearStatus p).angle = p.angle ∧ (clearStatus p).timer = p.timer ∧
    (clearStatus p).scanner = p.scanner ∧ (clearStatus p).sender = p.sender := by
  simp [clearStatus, choices_ite, path_ite, disp_ite, servo_ite, angle_ite, timer_ite, scanner_ite, sender_ite]

@[simp] theorem clearOpen_frame :
    (clearOpen p).pins = p.pins ∧ (clearOpen p).phc = p.phc ∧ (clearOpen p).resetActive = p.resetActive ∧
    (clearOpen p).choices = p.choices ∧ (clearOpen p).clock = p.clock ∧ (clearOpen p).loader = p.loader ∧
    (clearOpen p).detector = p.detector ∧ (clearOpen p).settings = p.settings ∧
    (clearOpen p).derived = p.derived ∧ (clearOpen p).placed = p.placed ∧ (clearOpen p).isOpen = p.isOpen := by
  simp [clearOpen, pins_ite, phc_ite, resetActive_ite, choices_ite, clock_ite, loader_ite, detector_ite]

@[simp] theorem openDevice_frame :
    (openDevice p).pins = p.pins ∧ (openDevice p).phc = p.phc ∧ (openDevice p).resetActive = p.resetActive ∧
    (openDevice p).choices = p.choices ∧ (openDevice p).clock = p.clock ∧ (openDevice p).path = p.path ∧
    (openDevice p).disp = p.disp ∧ (openDevice p).servo = p.servo ∧ (openDevice p).angle = p.angle ∧
    (openDevice p).timer = p.timer ∧ (openDevice p).scanner = p.scanner ∧ (openDevice p).sender = p.sender ∧
    (openDevice p).detector = p.detector ∧ (openDevice p).slips = p.slips ∧
    (openDevice p).status = p.status := by
  simp [openDevice, pins_ite, phc_ite, resetActive_ite, choices_ite, clock_ite, path_ite, disp_ite, servo_ite, angle_ite, timer_ite, scanner_ite, sender_ite, detector_ite, slips_ite, status_ite]

@[simp] theorem openCommand_frame (code : Byte) :
    (openCommand code p).2.pins = p.pins ∧ (openCommand code p).2.phc = p.phc ∧
    (openCommand code p).2.resetActive = p.resetActive ∧ (openCommand code p).2.choices = p.choices ∧
    (openCommand code p).2.clock = p.clock ∧ (openCommand code p).2.loader = p.loader ∧
    (openCommand code p).2.detector = p.detector ∧ (openCommand code p).2.settings = p.settings ∧
    (openCommand code p).2.derived = p.derived ∧ (openCommand code p).2.placed = p.placed ∧
    (openCommand code p).2.isOpen = p.isOpen := by
  unfold openCommand; split <;> simp [pins_ite, phc_ite, resetActive_ite, choices_ite, clock_ite, loader_ite, detector_ite]

@[simp] theorem closedCommand_frame (code : Byte) :
    (closedCommand code p).2.pins = p.pins ∧ (closedCommand code p).2.phc = p.phc ∧
    (closedCommand code p).2.resetActive = p.resetActive ∧ (closedCommand code p).2.choices = p.choices ∧
    (closedCommand code p).2.clock = p.clock ∧ (closedCommand code p).2.path = p.path ∧
    (closedCommand code p).2.disp = p.disp ∧ (closedCommand code p).2.servo = p.servo ∧
    (closedCommand code p).2.angle = p.angle ∧ (closedCommand code p).2.timer = p.timer ∧
    (closedCommand code p).2.scanner = p.scanner ∧ (closedCommand code p).2.sender = p.sender ∧
    (closedCommand code p).2.detector = p.detector ∧ (closedCommand code p).2.slips = p.slips ∧
    (closedCommand code p).2.status = p.status := by
  unfold closedCommand; split <;> simp [pins_ite, phc_ite, resetActive_ite, choices_ite, clock_ite, path_ite, disp_ite, servo_ite, angle_ite, timer_ite, scanner_ite, sender_ite, detector_ite, slips_ite, status_ite]

@[simp] theorem takeCommand_frame (code : Byte) :
    (takeCommand code p).pins = p.pins ∧ (takeCommand code p).phc = p.phc ∧
    (takeCommand code p).resetActive = p.resetActive ∧ (takeCommand code p).choices = p.choices ∧
    (takeCommand code p).clock = p.clock ∧ (takeCommand code p).detector = p.detector := by
  unfold takeCommand; split <;> simp [pins_ite, phc_ite, resetActive_ite, choices_ite, clock_ite, detector_ite]

@[simp] theorem snoopWrite_frame (x : Nat) (b : Byte) :
    (snoopWrite x b p).pins = p.pins ∧ (snoopWrite x b p).phc = p.phc ∧
    (snoopWrite x b p).resetActive = p.resetActive ∧ (snoopWrite x b p).choices = p.choices ∧
    (snoopWrite x b p).clock = p.clock ∧ (snoopWrite x b p).detector = p.detector := by
  simp [snoopWrite, pins_ite, phc_ite, resetActive_ite, choices_ite, clock_ite, detector_ite]

@[simp] theorem openWindow_still : (openWindow p).still = p.still := by
  simp [openWindow, still_ite]
@[simp] theorem openWindow_keeps : Keeps (openWindow p) p :=
  Still.keeps (openWindow_still _)
@[simp] theorem openWindow_frame :
    (openWindow p).choices = p.choices ∧ (openWindow p).path = p.path ∧ (openWindow p).disp = p.disp ∧
    (openWindow p).servo = p.servo ∧ (openWindow p).angle = p.angle ∧ (openWindow p).timer = p.timer ∧
    (openWindow p).scanner = p.scanner ∧ (openWindow p).sender = p.sender := by
  simp [openWindow, choices_ite, path_ite, disp_ite, servo_ite, angle_ite, timer_ite, scanner_ite, sender_ite]

@[simp] theorem shutWindow_still : (shutWindow p).still = p.still := by
  simp [shutWindow, still_ite]
@[simp] theorem shutWindow_keeps : Keeps (shutWindow p) p :=
  Still.keeps (shutWindow_still _)
@[simp] theorem shutWindow_frame :
    (shutWindow p).choices = p.choices ∧ (shutWindow p).path = p.path ∧ (shutWindow p).disp = p.disp ∧
    (shutWindow p).servo = p.servo ∧ (shutWindow p).angle = p.angle ∧ (shutWindow p).timer = p.timer ∧
    (shutWindow p).scanner = p.scanner ∧ (shutWindow p).sender = p.sender := by
  simp [shutWindow, choices_ite, path_ite, disp_ite, servo_ite, angle_ite, timer_ite, scanner_ite, sender_ite]

@[simp] theorem readCauses_still : (readCauses p).still = p.still := by
  simp [readCauses, still_ite]
@[simp] theorem readCauses_keeps : Keeps (readCauses p) p :=
  Still.keeps (readCauses_still _)
@[simp] theorem readCauses_frame :
    (readCauses p).choices = p.choices ∧ (readCauses p).path = p.path ∧ (readCauses p).disp = p.disp ∧
    (readCauses p).servo = p.servo ∧ (readCauses p).angle = p.angle ∧ (readCauses p).timer = p.timer ∧
    (readCauses p).scanner = p.scanner ∧ (readCauses p).sender = p.sender := by
  simp [readCauses, choices_ite, path_ite, disp_ite, servo_ite, angle_ite, timer_ite, scanner_ite, sender_ite]

@[simp] theorem snoopRead_still (x : Nat) : (snoopRead x p).still = p.still := by
  simp [snoopRead, still_ite]
@[simp] theorem snoopRead_keeps (x : Nat) : Keeps (snoopRead x p) p :=
  Still.keeps (snoopRead_still _ _)
@[simp] theorem snoopRead_frame (x : Nat) :
    (snoopRead x p).choices = p.choices ∧ (snoopRead x p).path = p.path ∧ (snoopRead x p).disp = p.disp ∧
    (snoopRead x p).servo = p.servo ∧ (snoopRead x p).angle = p.angle ∧ (snoopRead x p).timer = p.timer ∧
    (snoopRead x p).scanner = p.scanner ∧ (snoopRead x p).sender = p.sender := by
  simp [snoopRead, choices_ite, path_ite, disp_ite, servo_ite, angle_ite, timer_ite, scanner_ite, sender_ite]

@[simp] theorem guardHit_still (x : Nat) : (guardHit x p).still = p.still := by
  simp [guardHit, still_ite]
@[simp] theorem guardHit_keeps (x : Nat) : Keeps (guardHit x p) p :=
  Still.keeps (guardHit_still _ _)
@[simp] theorem guardHit_frame (x : Nat) :
    (guardHit x p).choices = p.choices ∧ (guardHit x p).disp = p.disp ∧ (guardHit x p).servo = p.servo ∧
    (guardHit x p).angle = p.angle ∧ (guardHit x p).timer = p.timer ∧ (guardHit x p).scanner = p.scanner ∧
    (guardHit x p).sender = p.sender := by
  simp [guardHit, choices_ite, disp_ite, servo_ite, angle_ite, timer_ite, scanner_ite, sender_ite]

@[simp] theorem judgeHeader_still (h : LineInHand) (b : Byte) : (judgeHeader h b p).still = p.still := by
  simp [judgeHeader, still_ite]
@[simp] theorem judgeHeader_keeps (h : LineInHand) (b : Byte) : Keeps (judgeHeader h b p) p :=
  Still.keeps (judgeHeader_still _ _ _)
@[simp] theorem judgeHeader_frame (h : LineInHand) (b : Byte) :
    (judgeHeader h b p).choices = p.choices ∧ (judgeHeader h b p).angle = p.angle := by
  simp [judgeHeader, choices_ite, angle_ite]

@[simp] theorem receiveByte_still (b : Byte) : (receiveByte b p).still = p.still := by
  unfold receiveByte; split <;> simp [still_ite]
@[simp] theorem receiveByte_keeps (b : Byte) : Keeps (receiveByte b p) p :=
  Still.keeps (receiveByte_still _ _)
@[simp] theorem receiveByte_frame (b : Byte) :
    (receiveByte b p).choices = p.choices ∧ (receiveByte b p).angle = p.angle := by
  unfold receiveByte; split <;> simp [choices_ite, angle_ite]

@[simp] theorem scanByteWritten_still : (scanByteWritten p).still = p.still := by
  simp [scanByteWritten, still_ite]
@[simp] theorem scanByteWritten_keeps : Keeps (scanByteWritten p) p :=
  Still.keeps (scanByteWritten_still _)
@[simp] theorem scanByteWritten_frame :
    (scanByteWritten p).choices = p.choices ∧ (scanByteWritten p).path = p.path ∧
    (scanByteWritten p).disp = p.disp ∧ (scanByteWritten p).servo = p.servo ∧
    (scanByteWritten p).angle = p.angle ∧ (scanByteWritten p).timer = p.timer ∧
    (scanByteWritten p).sender = p.sender ∧ (scanByteWritten p).status = p.status := by
  simp [scanByteWritten, choices_ite, path_ite, disp_ite, servo_ite, angle_ite, timer_ite, sender_ite, status_ite]

@[simp] theorem statusByteWritten_still (i : Nat) (b : Byte) : (statusByteWritten i b p).still = p.still := by
  simp [statusByteWritten, still_ite]
@[simp] theorem statusByteWritten_keeps (i : Nat) (b : Byte) : Keeps (statusByteWritten i b p) p :=
  Still.keeps (statusByteWritten_still _ _ _)
@[simp] theorem statusByteWritten_frame (i : Nat) (b : Byte) :
    (statusByteWritten i b p).choices = p.choices ∧ (statusByteWritten i b p).path = p.path ∧
    (statusByteWritten i b p).disp = p.disp ∧ (statusByteWritten i b p).servo = p.servo ∧
    (statusByteWritten i b p).angle = p.angle ∧ (statusByteWritten i b p).timer = p.timer ∧
    (statusByteWritten i b p).scanner = p.scanner ∧ (statusByteWritten i b p).sender = p.sender := by
  simp [statusByteWritten, choices_ite, path_ite, disp_ite, servo_ite, angle_ite, timer_ite, scanner_ite, sender_ite]

@[simp] theorem slipWritten_frame :
    (slipWritten p).pins = p.pins ∧ (slipWritten p).phc = p.phc ∧ (slipWritten p).resetActive = p.resetActive ∧
    (slipWritten p).choices = p.choices ∧ (slipWritten p).clock = p.clock ∧ (slipWritten p).loader = p.loader ∧
    (slipWritten p).servo = p.servo ∧ (slipWritten p).angle = p.angle ∧ (slipWritten p).timer = p.timer ∧
    (slipWritten p).scanner = p.scanner ∧ (slipWritten p).sender = p.sender ∧
    (slipWritten p).detector = p.detector ∧ (slipWritten p).settings = p.settings ∧
    (slipWritten p).derived = p.derived ∧ (slipWritten p).placed = p.placed ∧
    (slipWritten p).isOpen = p.isOpen := by
  simp [slipWritten, pins_ite, phc_ite, resetActive_ite, choices_ite, clock_ite, loader_ite, servo_ite, angle_ite, timer_ite, scanner_ite, sender_ite, detector_ite]

@[simp] theorem slipByteWritten_frame :
    (slipByteWritten p).pins = p.pins ∧ (slipByteWritten p).phc = p.phc ∧
    (slipByteWritten p).resetActive = p.resetActive ∧ (slipByteWritten p).choices = p.choices ∧
    (slipByteWritten p).clock = p.clock ∧ (slipByteWritten p).loader = p.loader ∧
    (slipByteWritten p).servo = p.servo ∧ (slipByteWritten p).angle = p.angle ∧
    (slipByteWritten p).timer = p.timer ∧ (slipByteWritten p).scanner = p.scanner ∧
    (slipByteWritten p).sender = p.sender ∧ (slipByteWritten p).detector = p.detector ∧
    (slipByteWritten p).settings = p.settings ∧ (slipByteWritten p).derived = p.derived ∧
    (slipByteWritten p).placed = p.placed ∧ (slipByteWritten p).isOpen = p.isOpen := by
  simp only [slipByteWritten]; split <;> simp [pins_ite, phc_ite, resetActive_ite, choices_ite, clock_ite, loader_ite, servo_ite, angle_ite, timer_ite, scanner_ite, sender_ite, detector_ite] <;> split <;> simp [pins_ite, phc_ite, resetActive_ite, choices_ite, clock_ite, loader_ite, servo_ite, angle_ite, timer_ite, scanner_ite, sender_ite, detector_ite]

@[simp] theorem countScanStall_still : (countScanStall p).still = p.still := by
  simp only [countScanStall]; split <;> simp [still_ite] <;> split <;> simp [still_ite]
@[simp] theorem countScanStall_keeps : Keeps (countScanStall p) p :=
  Still.keeps (countScanStall_still _)
@[simp] theorem countScanStall_frame :
    (countScanStall p).choices = p.choices ∧ (countScanStall p).angle = p.angle := by
  simp only [countScanStall]; split <;> simp [choices_ite, angle_ite] <;> split <;> simp [choices_ite, angle_ite]

@[simp] theorem commitLine_still (j : Job) (l : OpenLine) : (commitLine j l p).still = p.still := by
  simp [commitLine, still_ite]
@[simp] theorem commitLine_keeps (j : Job) (l : OpenLine) : Keeps (commitLine j l p) p :=
  Still.keeps (commitLine_still _ _ _)
@[simp] theorem commitLine_frame (j : Job) (l : OpenLine) :
    (commitLine j l p).choices = p.choices ∧ (commitLine j l p).servo = p.servo ∧
    (commitLine j l p).angle = p.angle ∧ (commitLine j l p).timer = p.timer ∧
    (commitLine j l p).sender = p.sender := by
  simp [commitLine, choices_ite, servo_ite, angle_ite, timer_ite, sender_ite]

@[simp] theorem damageLine_still : (damageLine p).still = p.still := by
  simp [damageLine, still_ite]
@[simp] theorem damageLine_keeps : Keeps (damageLine p) p :=
  Still.keeps (damageLine_still _)
@[simp] theorem damageLine_frame :
    (damageLine p).choices = p.choices ∧ (damageLine p).angle = p.angle := by
  simp [damageLine, choices_ite, angle_ite]

@[simp] theorem closeLine_still (whole : Bool) (j : Job) : (closeLine whole j p).still = p.still := by
  unfold closeLine; split <;> simp [still_ite]
@[simp] theorem closeLine_keeps (whole : Bool) (j : Job) : Keeps (closeLine whole j p) p :=
  Still.keeps (closeLine_still _ _ _)
@[simp] theorem closeLine_frame (whole : Bool) (j : Job) :
    (closeLine whole j p).choices = p.choices ∧ (closeLine whole j p).angle = p.angle := by
  unfold closeLine; split <;> simp [choices_ite, angle_ite]

@[simp] theorem reportDone_still (j : Job) : (reportDone j p).still = p.still := by
  simp [reportDone, still_ite]
@[simp] theorem reportDone_keeps (j : Job) : Keeps (reportDone j p) p :=
  Still.keeps (reportDone_still _ _)
@[simp] theorem reportDone_frame (j : Job) :
    (reportDone j p).choices = p.choices ∧ (reportDone j p).path = p.path ∧ (reportDone j p).disp = p.disp ∧
    (reportDone j p).servo = p.servo ∧ (reportDone j p).angle = p.angle ∧ (reportDone j p).timer = p.timer ∧
    (reportDone j p).sender = p.sender ∧ (reportDone j p).status = p.status := by
  simp [reportDone, choices_ite, path_ite, disp_ite, servo_ite, angle_ite, timer_ite, sender_ite, status_ite]

@[simp] theorem endScan_still (j : Job) : (endScan j p).still = p.still := by
  simp [endScan, still_ite]
@[simp] theorem endScan_keeps (j : Job) : Keeps (endScan j p) p :=
  Still.keeps (endScan_still _ _)
@[simp] theorem endScan_frame (j : Job) :
    (endScan j p).choices = p.choices ∧ (endScan j p).angle = p.angle ∧ (endScan j p).timer = p.timer ∧
    (endScan j p).sender = p.sender ∧ (endScan j p).status = p.status := by
  simp [endScan, choices_ite, angle_ite, timer_ite, sender_ite, status_ite]

@[simp] theorem testScanEnd_still (j : Job) : (testScanEnd j p).still = p.still := by
  simp [testScanEnd, still_ite]
@[simp] theorem testScanEnd_keeps (j : Job) : Keeps (testScanEnd j p) p :=
  Still.keeps (testScanEnd_still _ _)
@[simp] theorem testScanEnd_frame (j : Job) :
    (testScanEnd j p).choices = p.choices ∧ (testScanEnd j p).angle = p.angle ∧
    (testScanEnd j p).timer = p.timer ∧ (testScanEnd j p).sender = p.sender ∧
    (testScanEnd j p).status = p.status := by
  simp [testScanEnd, choices_ite, angle_ite, timer_ite, sender_ite, status_ite]

@[simp] theorem countStoreEvent_still (j : Job) : (countStoreEvent j p).still = p.still := by
  simp [countStoreEvent, still_ite]
@[simp] theorem countStoreEvent_keeps (j : Job) : Keeps (countStoreEvent j p) p :=
  Still.keeps (countStoreEvent_still _ _)
@[simp] theorem countStoreEvent_frame (j : Job) :
    (countStoreEvent j p).choices = p.choices ∧ (countStoreEvent j p).path = p.path ∧
    (countStoreEvent j p).servo = p.servo ∧ (countStoreEvent j p).angle = p.angle ∧
    (countStoreEvent j p).timer = p.timer ∧ (countStoreEvent j p).scanner = p.scanner ∧
    (countStoreEvent j p).sender = p.sender ∧ (countStoreEvent j p).status = p.status := by
  simp [countStoreEvent, choices_ite, path_ite, servo_ite, angle_ite, timer_ite, scanner_ite, sender_ite, status_ite]

@[simp] theorem claimSlot_still (j : Job) : (claimSlot j p).still = p.still := by
  simp [claimSlot, still_ite]
@[simp] theorem claimSlot_keeps (j : Job) : Keeps (claimSlot j p) p :=
  Still.keeps (claimSlot_still _ _)
@[simp] theorem claimSlot_frame (j : Job) :
    (claimSlot j p).choices = p.choices ∧ (claimSlot j p).angle = p.angle := by
  simp [claimSlot, choices_ite, angle_ite]

@[simp] theorem enterScan_still (j : Job) : (enterScan j p).still = p.still := by
  simp [enterScan, still_ite]
@[simp] theorem enterScan_keeps (j : Job) : Keeps (enterScan j p) p :=
  Still.keeps (enterScan_still _ _)
@[simp] theorem enterScan_frame (j : Job) :
    (enterScan j p).choices = p.choices ∧ (enterScan j p).angle = p.angle := by
  simp [enterScan, choices_ite, angle_ite]

@[simp] theorem scannerClose_still (whole : Bool) : (scannerClose whole p).still = p.still := by
  unfold scannerClose; split <;> simp [still_ite]
@[simp] theorem scannerClose_keeps (whole : Bool) : Keeps (scannerClose whole p) p :=
  Still.keeps (scannerClose_still _ _)
@[simp] theorem scannerClose_frame (whole : Bool) :
    (scannerClose whole p).choices = p.choices ∧ (scannerClose whole p).angle = p.angle := by
  unfold scannerClose; split <;> simp [choices_ite, angle_ite]

@[simp] theorem scannerClaim_still : (scannerClaim p).still = p.still := by
  unfold scannerClaim; split <;> simp [still_ite]
@[simp] theorem scannerClaim_keeps : Keeps (scannerClaim p) p :=
  Still.keeps (scannerClaim_still _)
@[simp] theorem scannerClaim_frame :
    (scannerClaim p).choices = p.choices ∧ (scannerClaim p).angle = p.angle := by
  unfold scannerClaim; split <;> simp [choices_ite, angle_ite]

@[simp] theorem storeEntry_still (locked : Bool) : (storeEntry locked p).still = p.still := by
  unfold storeEntry; split <;> simp [still_ite]
@[simp] theorem storeEntry_keeps (locked : Bool) : Keeps (storeEntry locked p) p :=
  Still.keeps (storeEntry_still _ _)
@[simp] theorem storeEntry_frame (locked : Bool) :
    (storeEntry locked p).choices = p.choices ∧ (storeEntry locked p).angle = p.angle := by
  unfold storeEntry; split <;> simp [choices_ite, angle_ite]

@[simp] theorem countSenderLine_still : (countSenderLine p).still = p.still := by
  simp [countSenderLine, still_ite]
@[simp] theorem countSenderLine_keeps : Keeps (countSenderLine p) p :=
  Still.keeps (countSenderLine_still _)
@[simp] theorem countSenderLine_frame :
    (countSenderLine p).choices = p.choices ∧ (countSenderLine p).path = p.path ∧
    (countSenderLine p).servo = p.servo ∧ (countSenderLine p).angle = p.angle ∧
    (countSenderLine p).timer = p.timer ∧ (countSenderLine p).scanner = p.scanner ∧
    (countSenderLine p).sender = p.sender ∧ (countSenderLine p).status = p.status := by
  simp [countSenderLine, choices_ite, path_ite, servo_ite, angle_ite, timer_ite, scanner_ite, sender_ite, status_ite]

@[simp] theorem callScanner_still (n : Nat) (j : Job) : (callScanner n j p).still = p.still := by
  simp [callScanner, still_ite]
@[simp] theorem callScanner_keeps (n : Nat) (j : Job) : Keeps (callScanner n j p) p :=
  Still.keeps (callScanner_still _ _ _)
@[simp] theorem callScanner_frame (n : Nat) (j : Job) :
    (callScanner n j p).choices = p.choices ∧ (callScanner n j p).angle = p.angle := by
  simp [callScanner, choices_ite, angle_ite]

@[simp] theorem enterStart_still (j : Job) : (enterStart j p).still = p.still := by
  simp [enterStart, still_ite]
@[simp] theorem enterStart_keeps (j : Job) : Keeps (enterStart j p) p :=
  Still.keeps (enterStart_still _ _)
@[simp] theorem enterStart_frame (j : Job) :
    (enterStart j p).choices = p.choices ∧ (enterStart j p).angle = p.angle := by
  simp [enterStart, choices_ite, angle_ite]

@[simp] theorem takeLine_still (j : Job) : (takeLine j p).still = p.still := by
  simp [takeLine, still_ite]
@[simp] theorem takeLine_keeps (j : Job) : Keeps (takeLine j p) p :=
  Still.keeps (takeLine_still _ _)
@[simp] theorem takeLine_frame (j : Job) :
    (takeLine j p).choices = p.choices ∧ (takeLine j p).servo = p.servo ∧ (takeLine j p).angle = p.angle ∧
    (takeLine j p).timer = p.timer ∧ (takeLine j p).scanner = p.scanner ∧ (takeLine j p).status = p.status := by
  simp [takeLine, choices_ite, servo_ite, angle_ite, timer_ite, scanner_ite, status_ite]

@[simp] theorem judgeStall_still (j : Job) : (judgeStall j p).still = p.still := by
  simp [judgeStall, still_ite]
@[simp] theorem judgeStall_keeps (j : Job) : Keeps (judgeStall j p) p :=
  Still.keeps (judgeStall_still _ _)
@[simp] theorem judgeStall_frame (j : Job) :
    (judgeStall j p).choices = p.choices ∧ (judgeStall j p).angle = p.angle := by
  simp [judgeStall, choices_ite, angle_ite]

@[simp] theorem repeatLine_still (j : Job) : (repeatLine j p).still = p.still := by
  simp [repeatLine, still_ite]
@[simp] theorem repeatLine_keeps (j : Job) : Keeps (repeatLine j p) p :=
  Still.keeps (repeatLine_still _ _)
@[simp] theorem repeatLine_frame (j : Job) :
    (repeatLine j p).choices = p.choices ∧ (repeatLine j p).angle = p.angle := by
  simp [repeatLine, choices_ite, angle_ite]

@[simp] theorem endImage_still (wasLast : Bool) (j : Job) : (endImage wasLast j p).still = p.still := by
  simp [endImage, still_ite]
@[simp] theorem endImage_keeps (wasLast : Bool) (j : Job) : Keeps (endImage wasLast j p) p :=
  Still.keeps (endImage_still _ _ _)
@[simp] theorem endImage_frame (wasLast : Bool) (j : Job) :
    (endImage wasLast j p).choices = p.choices ∧ (endImage wasLast j p).servo = p.servo ∧
    (endImage wasLast j p).angle = p.angle ∧ (endImage wasLast j p).timer = p.timer := by
  simp [endImage, choices_ite, servo_ite, angle_ite, timer_ite]

@[simp] theorem imageLine_still (before : Nat) (wasLast : Bool) (j : Job) :
    (imageLine before wasLast j p).still = p.still := by
  simp [imageLine, still_ite]
@[simp] theorem imageLine_keeps (before : Nat) (wasLast : Bool) (j : Job) : Keeps (imageLine before wasLast j p) p :=
  Still.keeps (imageLine_still _ _ _ _)
@[simp] theorem imageLine_frame (before : Nat) (wasLast : Bool) (j : Job) :
    (imageLine before wasLast j p).choices = p.choices ∧ (imageLine before wasLast j p).angle = p.angle := by
  simp [imageLine, choices_ite, angle_ite]

@[simp] theorem phasingLine_still : (phasingLine p).still = p.still := by
  simp [phasingLine, still_ite]
@[simp] theorem phasingLine_keeps : Keeps (phasingLine p) p :=
  Still.keeps (phasingLine_still _)
@[simp] theorem phasingLine_frame :
    (phasingLine p).choices = p.choices ∧ (phasingLine p).path = p.path ∧ (phasingLine p).servo = p.servo ∧
    (phasingLine p).angle = p.angle ∧ (phasingLine p).timer = p.timer ∧ (phasingLine p).scanner = p.scanner ∧
    (phasingLine p).status = p.status := by
  simp [phasingLine, choices_ite, path_ite, servo_ite, angle_ite, timer_ite, scanner_ite, status_ite]

@[simp] theorem endStop_still (j : Job) : (endStop j p).still = p.still := by
  simp [endStop, still_ite]
@[simp] theorem endStop_keeps (j : Job) : Keeps (endStop j p) p :=
  Still.keeps (endStop_still _ _)
@[simp] theorem endStop_frame (j : Job) :
    (endStop j p).choices = p.choices ∧ (endStop j p).angle = p.angle := by
  simp [endStop, choices_ite, angle_ite]

@[simp] theorem stopLine_still (j : Job) : (stopLine j p).still = p.still := by
  simp only [stopLine]; split <;> simp [still_ite] <;> split <;> simp [still_ite]
@[simp] theorem stopLine_keeps (j : Job) : Keeps (stopLine j p) p :=
  Still.keeps (stopLine_still _ _)
@[simp] theorem stopLine_frame (j : Job) :
    (stopLine j p).choices = p.choices ∧ (stopLine j p).angle = p.angle := by
  simp only [stopLine]; split <;> simp [choices_ite, angle_ite] <;> split <;> simp [choices_ite, angle_ite]

@[simp] theorem toneLine_still (before : Nat) (wasLast : Bool) (n : Nat) (j : Job) :
    (toneLine before wasLast n j p).still = p.still := by
  unfold toneLine; split <;> simp [still_ite]
@[simp] theorem toneLine_keeps (before : Nat) (wasLast : Bool) (n : Nat) (j : Job) : Keeps (toneLine before wasLast n j p) p :=
  Still.keeps (toneLine_still _ _ _ _ _)
@[simp] theorem toneLine_frame (before : Nat) (wasLast : Bool) (n : Nat) (j : Job) :
    (toneLine before wasLast n j p).choices = p.choices ∧ (toneLine before wasLast n j p).angle = p.angle := by
  unfold toneLine; split <;> simp [choices_ite, angle_ite]

@[simp] theorem countedLine_still (before : Nat) (wasLast : Bool) (j : Job) :
    (countedLine before wasLast j p).still = p.still := by
  simp [countedLine, still_ite]
@[simp] theorem countedLine_keeps (before : Nat) (wasLast : Bool) (j : Job) : Keeps (countedLine before wasLast j p) p :=
  Still.keeps (countedLine_still _ _ _ _)
@[simp] theorem countedLine_frame (before : Nat) (wasLast : Bool) (j : Job) :
    (countedLine before wasLast j p).choices = p.choices ∧
    (countedLine before wasLast j p).angle = p.angle := by
  simp [countedLine, choices_ite, angle_ite]

@[simp] theorem senderLine_still (before : Nat) (wasLast : Bool) :
    (senderLine before wasLast p).still = p.still := by
  unfold senderLine; (repeat' split) <;> simp [still_ite]
@[simp] theorem senderLine_keeps (before : Nat) (wasLast : Bool) : Keeps (senderLine before wasLast p) p :=
  Still.keeps (senderLine_still _ _ _)
@[simp] theorem senderLine_frame (before : Nat) (wasLast : Bool) :
    (senderLine before wasLast p).choices = p.choices ∧ (senderLine before wasLast p).angle = p.angle := by
  unfold senderLine; (repeat' split) <;> simp [choices_ite, angle_ite]

@[simp] theorem releaseAtLine_still : (releaseAtLine p).still = p.still := by
  simp [releaseAtLine, still_ite]
@[simp] theorem releaseAtLine_keeps : Keeps (releaseAtLine p) p :=
  Still.keeps (releaseAtLine_still _)
@[simp] theorem releaseAtLine_frame :
    (releaseAtLine p).choices = p.choices ∧ (releaseAtLine p).disp = p.disp ∧
    (releaseAtLine p).servo = p.servo ∧ (releaseAtLine p).angle = p.angle ∧
    (releaseAtLine p).timer = p.timer := by
  simp [releaseAtLine, choices_ite, disp_ite, servo_ite, angle_ite, timer_ite]

@[simp] theorem drumLineEvent_still (whole lockedBefore : Bool) :
    (drumLineEvent whole lockedBefore p).still = p.still := by
  simp [drumLineEvent, still_ite]
@[simp] theorem drumLineEvent_keeps (whole lockedBefore : Bool) : Keeps (drumLineEvent whole lockedBefore p) p :=
  Still.keeps (drumLineEvent_still _ _ _)
@[simp] theorem drumLineEvent_frame (whole lockedBefore : Bool) :
    (drumLineEvent whole lockedBefore p).choices = p.choices ∧
    (drumLineEvent whole lockedBefore p).angle = p.angle := by
  simp [drumLineEvent, choices_ite, angle_ite]

@[simp] theorem timerLineEvent_still : (timerLineEvent p).still = p.still := by
  simp [timerLineEvent, still_ite]
@[simp] theorem timerLineEvent_keeps : Keeps (timerLineEvent p) p :=
  Still.keeps (timerLineEvent_still _)
@[simp] theorem timerLineEvent_frame :
    (timerLineEvent p).choices = p.choices ∧ (timerLineEvent p).angle = p.angle := by
  simp [timerLineEvent, choices_ite, angle_ite]

@[simp] theorem runLoop_still (l : LoopStep) : (runLoop l p).still = p.still := by
  simp [runLoop, still_ite]
@[simp] theorem runLoop_keeps (l : LoopStep) : Keeps (runLoop l p) p :=
  Still.keeps (runLoop_still _ _)
@[simp] theorem runLoop_frame (l : LoopStep) :
    (runLoop l p).choices = p.choices ∧ (runLoop l p).path = p.path ∧ (runLoop l p).disp = p.disp ∧
    (runLoop l p).angle = p.angle ∧ (runLoop l p).timer = p.timer ∧ (runLoop l p).scanner = p.scanner ∧
    (runLoop l p).sender = p.sender ∧ (runLoop l p).status = p.status := by
  simp [runLoop, choices_ite, path_ite, disp_ite, angle_ite, timer_ite, scanner_ite, sender_ite, status_ite]

@[simp] theorem spinupPeriod_still (period : Nat) : (spinupPeriod period p).still = p.still := by
  simp [spinupPeriod, still_ite]
@[simp] theorem spinupPeriod_keeps (period : Nat) : Keeps (spinupPeriod period p) p :=
  Still.keeps (spinupPeriod_still _ _)
@[simp] theorem spinupPeriod_frame (period : Nat) :
    (spinupPeriod period p).choices = p.choices ∧ (spinupPeriod period p).path = p.path ∧
    (spinupPeriod period p).disp = p.disp ∧ (spinupPeriod period p).timer = p.timer ∧
    (spinupPeriod period p).sender = p.sender := by
  simp [spinupPeriod, choices_ite, path_ite, disp_ite, timer_ite, sender_ite]

@[simp] theorem lockingPeriod_still (found : Demands) (period : Nat) : (lockingPeriod found period p).still = p.still := by
  simp [lockingPeriod, still_ite]
@[simp] theorem lockingPeriod_keeps (found : Demands) (period : Nat) : Keeps (lockingPeriod found period p) p :=
  Still.keeps (lockingPeriod_still _ _ _)
@[simp] theorem lockingPeriod_frame (found : Demands) (period : Nat) :
    (lockingPeriod found period p).choices = p.choices ∧ (lockingPeriod found period p).path = p.path ∧
    (lockingPeriod found period p).disp = p.disp ∧ (lockingPeriod found period p).timer = p.timer ∧
    (lockingPeriod found period p).sender = p.sender := by
  simp [lockingPeriod, choices_ite, path_ite, disp_ite, timer_ite, sender_ite]

@[simp] theorem recordError_still (found : Demands) (err : Nat) : (recordError found err p).still = p.still := by
  simp [recordError, still_ite]
@[simp] theorem recordError_keeps (found : Demands) (err : Nat) : Keeps (recordError found err p) p :=
  Still.keeps (recordError_still _ _ _)
@[simp] theorem recordError_frame (found : Demands) (err : Nat) :
    (recordError found err p).choices = p.choices ∧ (recordError found err p).path = p.path ∧
    (recordError found err p).servo = p.servo ∧ (recordError found err p).angle = p.angle ∧
    (recordError found err p).timer = p.timer ∧ (recordError found err p).scanner = p.scanner ∧
    (recordError found err p).sender = p.sender ∧ (recordError found err p).status = p.status := by
  simp [recordError, choices_ite, path_ite, servo_ite, angle_ite, timer_ite, scanner_ite, sender_ite, status_ite]

@[simp] theorem judgeFault_still (found : Demands) (err : Nat) : (judgeFault found err p).still = p.still := by
  simp [judgeFault, still_ite]
@[simp] theorem judgeFault_keeps (found : Demands) (err : Nat) : Keeps (judgeFault found err p) p :=
  Still.keeps (judgeFault_still _ _ _)
@[simp] theorem judgeFault_frame (found : Demands) (err : Nat) :
    (judgeFault found err p).choices = p.choices ∧ (judgeFault found err p).angle = p.angle := by
  simp [judgeFault, choices_ite, angle_ite]

@[simp] theorem judgeWindow_still (err : Nat) : (judgeWindow err p).still = p.still := by
  simp [judgeWindow, still_ite]
@[simp] theorem judgeWindow_keeps (err : Nat) : Keeps (judgeWindow err p) p :=
  Still.keeps (judgeWindow_still _ _)
@[simp] theorem judgeWindow_frame (err : Nat) :
    (judgeWindow err p).choices = p.choices ∧ (judgeWindow err p).path = p.path ∧
    (judgeWindow err p).disp = p.disp ∧ (judgeWindow err p).timer = p.timer ∧
    (judgeWindow err p).sender = p.sender := by
  simp [judgeWindow, choices_ite, path_ite, disp_ite, timer_ite, sender_ite]

@[simp] theorem lockedPeriod_still (found : Demands) (period : Nat) : (lockedPeriod found period p).still = p.still := by
  simp [lockedPeriod, still_ite]
@[simp] theorem lockedPeriod_keeps (found : Demands) (period : Nat) : Keeps (lockedPeriod found period p) p :=
  Still.keeps (lockedPeriod_still _ _ _)
@[simp] theorem lockedPeriod_frame (found : Demands) (period : Nat) :
    (lockedPeriod found period p).choices = p.choices := by
  simp [lockedPeriod, choices_ite]

@[simp] theorem servoPeriod_still (found : Demands) (period : Nat) : (servoPeriod found period p).still = p.still := by
  unfold servoPeriod; split <;> simp [still_ite]
@[simp] theorem servoPeriod_keeps (found : Demands) (period : Nat) : Keeps (servoPeriod found period p) p :=
  Still.keeps (servoPeriod_still _ _ _)
@[simp] theorem servoPeriod_frame (found : Demands) (period : Nat) :
    (servoPeriod found period p).choices = p.choices := by
  unfold servoPeriod; split <;> simp [choices_ite]

@[simp] theorem advanceTick_frame (tick : Tick) :
    (advanceTick tick p).pins = p.pins ∧ (advanceTick tick p).phc = p.phc ∧
    (advanceTick tick p).resetActive = p.resetActive ∧ (advanceTick tick p).choices = p.choices ∧
    (advanceTick tick p).loader = p.loader ∧ (advanceTick tick p).path = p.path ∧
    (advanceTick tick p).disp = p.disp ∧ (advanceTick tick p).angle = p.angle ∧
    (advanceTick tick p).timer = p.timer ∧ (advanceTick tick p).scanner = p.scanner ∧
    (advanceTick tick p).sender = p.sender ∧ (advanceTick tick p).detector = p.detector ∧
    (advanceTick tick p).slips = p.slips ∧ (advanceTick tick p).status = p.status ∧
    (advanceTick tick p).settings = p.settings ∧ (advanceTick tick p).derived = p.derived ∧
    (advanceTick tick p).placed = p.placed ∧ (advanceTick tick p).isOpen = p.isOpen := by
  unfold advanceTick; split <;> simp [pins_ite, phc_ite, resetActive_ite, choices_ite, loader_ite, path_ite, disp_ite, angle_ite, timer_ite, scanner_ite, sender_ite, detector_ite, slips_ite, status_ite]

@[simp] theorem buildSchedule_still (period : Option Nat) : (buildSchedule period p).still = p.still := by
  simp [buildSchedule, still_ite]
@[simp] theorem buildSchedule_keeps (period : Option Nat) : Keeps (buildSchedule period p) p :=
  Still.keeps (buildSchedule_still _ _)
@[simp] theorem buildSchedule_frame (period : Option Nat) :
    (buildSchedule period p).choices = p.choices ∧ (buildSchedule period p).path = p.path ∧
    (buildSchedule period p).disp = p.disp ∧ (buildSchedule period p).servo = p.servo ∧
    (buildSchedule period p).timer = p.timer ∧ (buildSchedule period p).scanner = p.scanner ∧
    (buildSchedule period p).sender = p.sender ∧ (buildSchedule period p).status = p.status := by
  simp [buildSchedule, choices_ite, path_ite, disp_ite, servo_ite, timer_ite, scanner_ite, sender_ite, status_ite]

@[simp] theorem discardSet_still : (discardSet p).still = p.still := by
  simp [discardSet, still_ite]
@[simp] theorem discardSet_keeps : Keeps (discardSet p) p :=
  Still.keeps (discardSet_still _)
@[simp] theorem discardSet_frame :
    (discardSet p).choices = p.choices ∧ (discardSet p).path = p.path ∧ (discardSet p).disp = p.disp ∧
    (discardSet p).servo = p.servo ∧ (discardSet p).angle = p.angle ∧ (discardSet p).timer = p.timer ∧
    (discardSet p).sender = p.sender ∧ (discardSet p).status = p.status := by
  simp [discardSet, choices_ite, path_ite, disp_ite, servo_ite, angle_ite, timer_ite, sender_ite, status_ite]

@[simp] theorem takeCapture_still (tick : Tick) (period : Option Nat) :
    (takeCapture tick period p).still = p.still := by
  simp [takeCapture, still_ite]
@[simp] theorem takeCapture_keeps (tick : Tick) (period : Option Nat) : Keeps (takeCapture tick period p) p :=
  Still.keeps (takeCapture_still _ _ _)
@[simp] theorem takeCapture_frame (tick : Tick) (period : Option Nat) :
    (takeCapture tick period p).choices = p.choices ∧ (takeCapture tick period p).path = p.path ∧
    (takeCapture tick period p).disp = p.disp ∧ (takeCapture tick period p).angle = p.angle ∧
    (takeCapture tick period p).timer = p.timer ∧ (takeCapture tick period p).scanner = p.scanner ∧
    (takeCapture tick period p).sender = p.sender ∧ (takeCapture tick period p).status = p.status := by
  simp [takeCapture, choices_ite, path_ite, disp_ite, angle_ite, timer_ite, scanner_ite, sender_ite, status_ite]

@[simp] theorem captureWork_still (servoFirst whole : Bool) (period : Option Nat) :
    (captureWork servoFirst whole period p).still = p.still := by
  cases servoFirst <;> cases period <;> simp [captureWork, still_ite, choices_ite, path_ite, disp_ite, servo_ite, angle_ite, timer_ite, scanner_ite, sender_ite, status_ite]
@[simp] theorem captureWork_keeps (servoFirst whole : Bool) (period : Option Nat) : Keeps (captureWork servoFirst whole period p) p :=
  Still.keeps (captureWork_still _ _ _ _)
@[simp] theorem captureWork_frame (servoFirst whole : Bool) (period : Option Nat) :
    (captureWork servoFirst whole period p).choices = p.choices := by
  cases servoFirst <;> cases period <;> simp [captureWork, still_ite, choices_ite, path_ite, disp_ite, servo_ite, angle_ite, timer_ite, scanner_ite, sender_ite, status_ite]

@[simp] theorem capture_still (tick : Tick) (servoFirst : Bool) : (capture tick servoFirst p).still = p.still := by
  simp [capture, still_ite]
@[simp] theorem capture_keeps (tick : Tick) (servoFirst : Bool) : Keeps (capture tick servoFirst p) p :=
  Still.keeps (capture_still _ _ _)
@[simp] theorem capture_frame (tick : Tick) (servoFirst : Bool) :
    (capture tick servoFirst p).choices = p.choices := by
  simp [capture, choices_ite]

@[simp] theorem wrapTick_frame :
    (wrapTick p).pins = p.pins ∧ (wrapTick p).phc = p.phc ∧ (wrapTick p).resetActive = p.resetActive ∧
    (wrapTick p).choices = p.choices ∧ (wrapTick p).loader = p.loader ∧ (wrapTick p).path = p.path ∧
    (wrapTick p).disp = p.disp ∧ (wrapTick p).angle = p.angle ∧ (wrapTick p).timer = p.timer ∧
    (wrapTick p).scanner = p.scanner ∧ (wrapTick p).sender = p.sender ∧ (wrapTick p).detector = p.detector ∧
    (wrapTick p).slips = p.slips ∧ (wrapTick p).status = p.status ∧ (wrapTick p).settings = p.settings ∧
    (wrapTick p).derived = p.derived ∧ (wrapTick p).placed = p.placed ∧ (wrapTick p).isOpen = p.isOpen := by
  unfold wrapTick; split <;> simp [pins_ite, phc_ite, resetActive_ite, choices_ite, loader_ite, path_ite, disp_ite, angle_ite, timer_ite, scanner_ite, sender_ite, detector_ite, slips_ite, status_ite]

@[simp] theorem takeLockTimeout_still : (takeLockTimeout p).still = p.still := by
  simp [takeLockTimeout, still_ite]
@[simp] theorem takeLockTimeout_keeps : Keeps (takeLockTimeout p) p :=
  Still.keeps (takeLockTimeout_still _)
@[simp] theorem takeLockTimeout_frame :
    (takeLockTimeout p).choices = p.choices ∧ (takeLockTimeout p).angle = p.angle := by
  simp [takeLockTimeout, choices_ite, angle_ite]

@[simp] theorem takeStall_still : (takeStall p).still = p.still := by
  simp [takeStall, still_ite]
@[simp] theorem takeStall_keeps : Keeps (takeStall p) p :=
  Still.keeps (takeStall_still _)
@[simp] theorem takeStall_frame :
    (takeStall p).choices = p.choices := by
  simp [takeStall, choices_ite]

@[simp] theorem takeStallTime_still : (takeStallTime p).still = p.still := by
  simp [takeStallTime, still_ite]
@[simp] theorem takeStallTime_keeps : Keeps (takeStallTime p) p :=
  Still.keeps (takeStallTime_still _)
@[simp] theorem takeStallTime_frame :
    (takeStallTime p).choices = p.choices := by
  simp [takeStallTime, choices_ite]

@[simp] theorem setIncrement_still (inc : Nat) : (setIncrement inc p).still = p.still := by
  simp [setIncrement, still_ite]
@[simp] theorem setIncrement_keeps (inc : Nat) : Keeps (setIncrement inc p) p :=
  Still.keeps (setIncrement_still _ _)
@[simp] theorem setIncrement_frame (inc : Nat) :
    (setIncrement inc p).choices = p.choices ∧ (setIncrement inc p).path = p.path ∧
    (setIncrement inc p).disp = p.disp ∧ (setIncrement inc p).servo = p.servo ∧
    (setIncrement inc p).angle = p.angle ∧ (setIncrement inc p).timer = p.timer ∧
    (setIncrement inc p).scanner = p.scanner ∧ (setIncrement inc p).status = p.status := by
  simp [setIncrement, choices_ite, path_ite, disp_ite, servo_ite, angle_ite, timer_ite, scanner_ite, status_ite]

@[simp] theorem fixedWhite_still : (fixedWhite p).still = p.still := by
  simp [fixedWhite, still_ite]
@[simp] theorem fixedWhite_keeps : Keeps (fixedWhite p) p :=
  Still.keeps (fixedWhite_still _)
@[simp] theorem fixedWhite_frame :
    (fixedWhite p).choices = p.choices ∧ (fixedWhite p).path = p.path ∧ (fixedWhite p).disp = p.disp ∧
    (fixedWhite p).servo = p.servo ∧ (fixedWhite p).angle = p.angle ∧ (fixedWhite p).timer = p.timer ∧
    (fixedWhite p).scanner = p.scanner ∧ (fixedWhite p).status = p.status := by
  simp [fixedWhite, choices_ite, path_ite, disp_ite, servo_ite, angle_ite, timer_ite, scanner_ite, status_ite]

@[simp] theorem fixedBlack_still : (fixedBlack p).still = p.still := by
  simp [fixedBlack, still_ite]
@[simp] theorem fixedBlack_keeps : Keeps (fixedBlack p) p :=
  Still.keeps (fixedBlack_still _)
@[simp] theorem fixedBlack_frame :
    (fixedBlack p).choices = p.choices ∧ (fixedBlack p).path = p.path ∧ (fixedBlack p).disp = p.disp ∧
    (fixedBlack p).servo = p.servo ∧ (fixedBlack p).angle = p.angle ∧ (fixedBlack p).timer = p.timer ∧
    (fixedBlack p).scanner = p.scanner ∧ (fixedBlack p).status = p.status := by
  simp [fixedBlack, choices_ite, path_ite, disp_ite, servo_ite, angle_ite, timer_ite, scanner_ite, status_ite]

@[simp] theorem sendPixel_still (j : Nat) (h : LineInHand) (b : Byte) (rest : List Byte) :
    (sendPixel j h b rest p).still = p.still := by
  simp [sendPixel, still_ite]
@[simp] theorem sendPixel_keeps (j : Nat) (h : LineInHand) (b : Byte) (rest : List Byte) : Keeps (sendPixel j h b rest p) p :=
  Still.keeps (sendPixel_still _ _ _ _ _)
@[simp] theorem sendPixel_frame (j : Nat) (h : LineInHand) (b : Byte) (rest : List Byte) :
    (sendPixel j h b rest p).choices = p.choices ∧ (sendPixel j h b rest p).path = p.path ∧
    (sendPixel j h b rest p).disp = p.disp ∧ (sendPixel j h b rest p).servo = p.servo ∧
    (sendPixel j h b rest p).angle = p.angle ∧ (sendPixel j h b rest p).timer = p.timer ∧
    (sendPixel j h b rest p).scanner = p.scanner ∧ (sendPixel j h b rest p).status = p.status := by
  simp [sendPixel, choices_ite, path_ite, disp_ite, servo_ite, angle_ite, timer_ite, scanner_ite, status_ite]

@[simp] theorem sendHeld_still (j : Nat) (h : LineInHand) (rest : List Byte) :
    (sendHeld j h rest p).still = p.still := by
  simp [sendHeld, still_ite]
@[simp] theorem sendHeld_keeps (j : Nat) (h : LineInHand) (rest : List Byte) : Keeps (sendHeld j h rest p) p :=
  Still.keeps (sendHeld_still _ _ _ _)
@[simp] theorem sendHeld_frame (j : Nat) (h : LineInHand) (rest : List Byte) :
    (sendHeld j h rest p).choices = p.choices ∧ (sendHeld j h rest p).path = p.path ∧
    (sendHeld j h rest p).servo = p.servo ∧ (sendHeld j h rest p).angle = p.angle ∧
    (sendHeld j h rest p).timer = p.timer ∧ (sendHeld j h rest p).scanner = p.scanner ∧
    (sendHeld j h rest p).status = p.status := by
  simp [sendHeld, choices_ite, path_ite, servo_ite, angle_ite, timer_ite, scanner_ite, status_ite]

@[simp] theorem imageSlotStart_still (j : Nat) (h : LineInHand) : (imageSlotStart j h p).still = p.still := by
  simp only [imageSlotStart]; split <;> simp [still_ite] <;> split <;> simp [still_ite]
@[simp] theorem imageSlotStart_keeps (j : Nat) (h : LineInHand) : Keeps (imageSlotStart j h p) p :=
  Still.keeps (imageSlotStart_still _ _ _)
@[simp] theorem imageSlotStart_frame (j : Nat) (h : LineInHand) :
    (imageSlotStart j h p).choices = p.choices ∧ (imageSlotStart j h p).path = p.path ∧
    (imageSlotStart j h p).servo = p.servo ∧ (imageSlotStart j h p).angle = p.angle ∧
    (imageSlotStart j h p).timer = p.timer ∧ (imageSlotStart j h p).scanner = p.scanner ∧
    (imageSlotStart j h p).status = p.status := by
  simp only [imageSlotStart]; split <;> simp [choices_ite, path_ite, servo_ite, angle_ite, timer_ite, scanner_ite, status_ite] <;> split <;> simp [choices_ite, path_ite, servo_ite, angle_ite, timer_ite, scanner_ite, status_ite]

@[simp] theorem imageStateSlot_still (k : Nat) : (imageStateSlot k p).still = p.still := by
  unfold imageStateSlot; split <;> simp [still_ite]
@[simp] theorem imageStateSlot_keeps (k : Nat) : Keeps (imageStateSlot k p) p :=
  Still.keeps (imageStateSlot_still _ _)
@[simp] theorem imageStateSlot_frame (k : Nat) :
    (imageStateSlot k p).choices = p.choices ∧ (imageStateSlot k p).path = p.path ∧
    (imageStateSlot k p).servo = p.servo ∧ (imageStateSlot k p).angle = p.angle ∧
    (imageStateSlot k p).timer = p.timer ∧ (imageStateSlot k p).scanner = p.scanner ∧
    (imageStateSlot k p).status = p.status := by
  unfold imageStateSlot; split <;> simp [choices_ite, path_ite, servo_ite, angle_ite, timer_ite, scanner_ite, status_ite]

@[simp] theorem senderSlotStart_still (k : Nat) : (senderSlotStart k p).still = p.still := by
  unfold senderSlotStart; split <;> simp [still_ite]
@[simp] theorem senderSlotStart_keeps (k : Nat) : Keeps (senderSlotStart k p) p :=
  Still.keeps (senderSlotStart_still _ _)
@[simp] theorem senderSlotStart_frame (k : Nat) :
    (senderSlotStart k p).choices = p.choices ∧ (senderSlotStart k p).path = p.path ∧
    (senderSlotStart k p).servo = p.servo ∧ (senderSlotStart k p).angle = p.angle ∧
    (senderSlotStart k p).timer = p.timer ∧ (senderSlotStart k p).scanner = p.scanner ∧
    (senderSlotStart k p).status = p.status := by
  unfold senderSlotStart; split <;> simp [choices_ite, path_ite, servo_ite, angle_ite, timer_ite, scanner_ite, status_ite]

@[simp] theorem Part.onLine_still (f : OpenLine → OpenLine) : (Part.onLine p f).still = p.still := by
  simp [Part.onLine, still_ite]
@[simp] theorem Part.onLine_keeps (f : OpenLine → OpenLine) : Keeps (Part.onLine p f) p :=
  Still.keeps (Part.onLine_still _ _)
@[simp] theorem Part.onLine_frame (f : OpenLine → OpenLine) :
    (Part.onLine p f).choices = p.choices ∧ (Part.onLine p f).path = p.path ∧ (Part.onLine p f).disp = p.disp ∧
    (Part.onLine p f).servo = p.servo ∧ (Part.onLine p f).angle = p.angle ∧ (Part.onLine p f).timer = p.timer ∧
    (Part.onLine p f).sender = p.sender ∧ (Part.onLine p f).status = p.status := by
  simp [Part.onLine, choices_ite, path_ite, disp_ite, servo_ite, angle_ite, timer_ite, sender_ite, status_ite]

@[simp] theorem overflowLine_still : (overflowLine p).still = p.still := by
  simp [overflowLine, still_ite]
@[simp] theorem overflowLine_keeps : Keeps (overflowLine p) p :=
  Still.keeps (overflowLine_still _)
@[simp] theorem overflowLine_frame :
    (overflowLine p).choices = p.choices ∧ (overflowLine p).disp = p.disp ∧ (overflowLine p).servo = p.servo ∧
    (overflowLine p).angle = p.angle ∧ (overflowLine p).timer = p.timer ∧ (overflowLine p).sender = p.sender ∧
    (overflowLine p).status = p.status := by
  simp [overflowLine, choices_ite, disp_ite, servo_ite, angle_ite, timer_ite, sender_ite, status_ite]

@[simp] theorem pushByte_still (b : Byte) : (pushByte p b).still = p.still := by
  unfold pushByte; split <;> simp [still_ite]
@[simp] theorem pushByte_keeps (b : Byte) : Keeps (pushByte p b) p :=
  Still.keeps (pushByte_still _ _)
@[simp] theorem pushByte_frame (b : Byte) :
    (pushByte p b).choices = p.choices ∧ (pushByte p b).disp = p.disp ∧ (pushByte p b).servo = p.servo ∧
    (pushByte p b).angle = p.angle ∧ (pushByte p b).timer = p.timer ∧ (pushByte p b).sender = p.sender ∧
    (pushByte p b).status = p.status := by
  unfold pushByte; split <;> simp [choices_ite, disp_ite, servo_ite, angle_ite, timer_ite, sender_ite, status_ite]

@[simp] theorem stripFault_still : (stripFault p).still = p.still := by
  simp [stripFault, still_ite]
@[simp] theorem stripFault_keeps : Keeps (stripFault p) p :=
  Still.keeps (stripFault_still _)
@[simp] theorem stripFault_frame :
    (stripFault p).choices = p.choices ∧ (stripFault p).angle = p.angle := by
  simp [stripFault, choices_ite, angle_ite]

@[simp] theorem judgeStrip_still (l : OpenLine) : (judgeStrip l p).still = p.still := by
  unfold judgeStrip; split <;> simp [still_ite]
@[simp] theorem judgeStrip_keeps (l : OpenLine) : Keeps (judgeStrip l p) p :=
  Still.keeps (judgeStrip_still _ _)
@[simp] theorem judgeStrip_frame (l : OpenLine) :
    (judgeStrip l p).choices = p.choices ∧ (judgeStrip l p).angle = p.angle := by
  unfold judgeStrip; split <;> simp [choices_ite, angle_ite]

@[simp] theorem endStripSet_still (l : OpenLine) (k : Nat) (xs : List Nat) :
    (endStripSet l k xs p).still = p.still := by
  simp [endStripSet, still_ite]
@[simp] theorem endStripSet_keeps (l : OpenLine) (k : Nat) (xs : List Nat) : Keeps (endStripSet l k xs p) p :=
  Still.keeps (endStripSet_still _ _ _ _)
@[simp] theorem endStripSet_frame (l : OpenLine) (k : Nat) (xs : List Nat) :
    (endStripSet l k xs p).choices = p.choices ∧ (endStripSet l k xs p).angle = p.angle := by
  simp [endStripSet, choices_ite, angle_ite]

@[simp] theorem pushBytes_still (bs : List Byte) : (bs.foldl pushByte p).still = p.still := by
  induction bs generalizing p with
  | nil => rfl
  | cons b bs ih => simp [ih]

@[simp] theorem pushBytes_frame (bs : List Byte) :
    (bs.foldl pushByte p).choices = p.choices ∧ (bs.foldl pushByte p).disp = p.disp ∧
    (bs.foldl pushByte p).servo = p.servo ∧ (bs.foldl pushByte p).angle = p.angle ∧
    (bs.foldl pushByte p).timer = p.timer ∧ (bs.foldl pushByte p).sender = p.sender ∧
    (bs.foldl pushByte p).status = p.status := by
  induction bs generalizing p with
  | nil => simp
  | cons b bs ih => simp [ih]

@[simp] theorem endImageSet_still (l : OpenLine) (k : Nat) (xs : List Nat) :
    (endImageSet l k xs p).still = p.still := by
  simp only [endImageSet]; split <;> simp
@[simp] theorem endImageSet_keeps (l : OpenLine) (k : Nat) (xs : List Nat) : Keeps (endImageSet l k xs p) p :=
  Still.keeps (endImageSet_still _ _ _ _)
@[simp] theorem endImageSet_frame (l : OpenLine) (k : Nat) (xs : List Nat) :
    (endImageSet l k xs p).choices = p.choices ∧ (endImageSet l k xs p).disp = p.disp ∧
    (endImageSet l k xs p).servo = p.servo ∧ (endImageSet l k xs p).angle = p.angle ∧
    (endImageSet l k xs p).timer = p.timer ∧ (endImageSet l k xs p).sender = p.sender ∧
    (endImageSet l k xs p).status = p.status := by
  simp only [endImageSet]; split <;> simp

@[simp] theorem endSet_still : (endSet p).still = p.still := by
  simp only [endSet]; split <;> simp [still_ite] <;> split <;> simp [still_ite]
@[simp] theorem endSet_keeps : Keeps (endSet p) p :=
  Still.keeps (endSet_still _)
@[simp] theorem endSet_frame :
    (endSet p).choices = p.choices ∧ (endSet p).angle = p.angle := by
  simp only [endSet]; split <;> simp [choices_ite, angle_ite] <;> split <;> simp [choices_ite, angle_ite]

@[simp] theorem scannerCentre_frame (k : Nat) :
    (scannerCentre k p).pins = p.pins ∧ (scannerCentre k p).phc = p.phc ∧
    (scannerCentre k p).resetActive = p.resetActive ∧ (scannerCentre k p).choices = p.choices ∧
    (scannerCentre k p).loader = p.loader ∧ (scannerCentre k p).angle = p.angle ∧
    (scannerCentre k p).detector = p.detector ∧ (scannerCentre k p).slips = p.slips ∧
    (scannerCentre k p).settings = p.settings ∧ (scannerCentre k p).derived = p.derived ∧
    (scannerCentre k p).placed = p.placed ∧ (scannerCentre k p).isOpen = p.isOpen := by
  simp only [scannerCentre]; split <;> simp [pins_ite, phc_ite, resetActive_ite, choices_ite, loader_ite, angle_ite, detector_ite, slips_ite] <;> split <;> simp [pins_ite, phc_ite, resetActive_ite, choices_ite, loader_ite, angle_ite, detector_ite, slips_ite]

@[simp] theorem handStart_still (offset : Nat) : (handStart offset p).still = p.still := by
  simp only [handStart]; split <;> simp [still_ite] <;> split <;> simp [still_ite]
@[simp] theorem handStart_keeps (offset : Nat) : Keeps (handStart offset p) p :=
  Still.keeps (handStart_still _ _)
@[simp] theorem handStart_frame (offset : Nat) :
    (handStart offset p).choices = p.choices ∧ (handStart offset p).path = p.path ∧
    (handStart offset p).servo = p.servo ∧ (handStart offset p).timer = p.timer ∧
    (handStart offset p).scanner = p.scanner ∧ (handStart offset p).status = p.status := by
  simp only [handStart]; split <;> simp [choices_ite, path_ite, servo_ite, timer_ite, scanner_ite, status_ite] <;> split <;> simp [choices_ite, path_ite, servo_ite, timer_ite, scanner_ite, status_ite]

@[simp] theorem handCentre_frame (offset : Nat) :
    (handCentre offset p).pins = p.pins ∧ (handCentre offset p).phc = p.phc ∧
    (handCentre offset p).resetActive = p.resetActive ∧ (handCentre offset p).choices = p.choices ∧
    (handCentre offset p).loader = p.loader ∧ (handCentre offset p).detector = p.detector ∧
    (handCentre offset p).slips = p.slips ∧ (handCentre offset p).settings = p.settings ∧
    (handCentre offset p).derived = p.derived ∧ (handCentre offset p).placed = p.placed ∧
    (handCentre offset p).isOpen = p.isOpen := by
  simp [handCentre, pins_ite, phc_ite, resetActive_ite, choices_ite, loader_ite, detector_ite, slips_ite]

@[simp] theorem takeConversion_frame (value : Sample) :
    (takeConversion value p).pins = p.pins ∧ (takeConversion value p).phc = p.phc ∧
    (takeConversion value p).resetActive = p.resetActive ∧ (takeConversion value p).choices = p.choices ∧
    (takeConversion value p).loader = p.loader ∧ (takeConversion value p).angle = p.angle ∧
    (takeConversion value p).detector = p.detector ∧ (takeConversion value p).slips = p.slips ∧
    (takeConversion value p).settings = p.settings ∧ (takeConversion value p).derived = p.derived ∧
    (takeConversion value p).placed = p.placed ∧ (takeConversion value p).isOpen = p.isOpen := by
  simp only [takeConversion]; split <;> simp [pins_ite, phc_ite, resetActive_ite, choices_ite, loader_ite, angle_ite, detector_ite, slips_ite] <;> split <;> simp [pins_ite, phc_ite, resetActive_ite, choices_ite, loader_ite, angle_ite, detector_ite, slips_ite]

@[simp] theorem expireTimer_still : (expireTimer p).still = p.still := by
  simp [expireTimer, still_ite]
@[simp] theorem expireTimer_keeps : Keeps (expireTimer p) p :=
  Still.keeps (expireTimer_still _)
@[simp] theorem expireTimer_frame :
    (expireTimer p).choices = p.choices ∧ (expireTimer p).angle = p.angle := by
  simp [expireTimer, choices_ite, angle_ite]

@[simp] theorem handTimerStart_still (offset : Nat) : (handTimerStart offset p).still = p.still := by
  simp only [handTimerStart]; split <;> simp [still_ite] <;> split <;> simp [still_ite]
@[simp] theorem handTimerStart_keeps (offset : Nat) : Keeps (handTimerStart offset p) p :=
  Still.keeps (handTimerStart_still _ _)
@[simp] theorem handTimerStart_frame (offset : Nat) :
    (handTimerStart offset p).choices = p.choices ∧ (handTimerStart offset p).path = p.path ∧
    (handTimerStart offset p).servo = p.servo ∧ (handTimerStart offset p).angle = p.angle ∧
    (handTimerStart offset p).scanner = p.scanner ∧ (handTimerStart offset p).status = p.status := by
  simp only [handTimerStart]; split <;> simp [choices_ite, path_ite, servo_ite, angle_ite, scanner_ite, status_ite] <;> split <;> simp [choices_ite, path_ite, servo_ite, angle_ite, scanner_ite, status_ite]

@[simp] theorem senderReady_still : (senderReady p).still = p.still := by
  simp [senderReady, still_ite]
@[simp] theorem senderReady_keeps : Keeps (senderReady p) p :=
  Still.keeps (senderReady_still _)
@[simp] theorem senderReady_frame :
    (senderReady p).choices = p.choices ∧ (senderReady p).angle = p.angle := by
  simp [senderReady, choices_ite, angle_ite]

@[simp] theorem senderHalt_still : (senderHalt p).still = p.still := by
  unfold senderHalt; split <;> simp [still_ite]
@[simp] theorem senderHalt_keeps : Keeps (senderHalt p) p :=
  Still.keeps (senderHalt_still _)
@[simp] theorem senderHalt_frame :
    (senderHalt p).choices = p.choices ∧ (senderHalt p).angle = p.angle := by
  unfold senderHalt; split <;> simp [choices_ite, angle_ite]

@[simp] theorem senderReceipt_still : (senderReceipt p).still = p.still := by
  simp [senderReceipt, still_ite]
@[simp] theorem senderReceipt_keeps : Keeps (senderReceipt p) p :=
  Still.keeps (senderReceipt_still _)
@[simp] theorem senderReceipt_frame :
    (senderReceipt p).choices = p.choices ∧ (senderReceipt p).angle = p.angle := by
  simp [senderReceipt, choices_ite, angle_ite]

@[simp] theorem farEndEvent_still (tone : Tone) : (farEndEvent tone p).still = p.still := by
  simp only [farEndEvent, still_ite]; (repeat' split) <;> simp [still_ite]
@[simp] theorem farEndEvent_keeps (tone : Tone) : Keeps (farEndEvent tone p) p :=
  Still.keeps (farEndEvent_still _ _)
@[simp] theorem farEndEvent_frame (tone : Tone) :
    (farEndEvent tone p).choices = p.choices ∧ (farEndEvent tone p).angle = p.angle := by
  simp only [farEndEvent, choices_ite, angle_ite]; (repeat' split) <;> simp [choices_ite, angle_ite]

@[simp] theorem judgeCycle_frame (cycle : Nat) :
    (judgeCycle cycle p).pins = p.pins ∧ (judgeCycle cycle p).phc = p.phc ∧
    (judgeCycle cycle p).resetActive = p.resetActive ∧ (judgeCycle cycle p).choices = p.choices ∧
    (judgeCycle cycle p).clock = p.clock ∧ (judgeCycle cycle p).loader = p.loader ∧
    (judgeCycle cycle p).angle = p.angle ∧ (judgeCycle cycle p).slips = p.slips ∧
    (judgeCycle cycle p).settings = p.settings ∧ (judgeCycle cycle p).derived = p.derived ∧
    (judgeCycle cycle p).placed = p.placed ∧ (judgeCycle cycle p).isOpen = p.isOpen := by
  simp only [judgeCycle, pins_ite, phc_ite, resetActive_ite, choices_ite, clock_ite, loader_ite, angle_ite, slips_ite]; (repeat' split) <;> simp [pins_ite, phc_ite, resetActive_ite, choices_ite, clock_ite, loader_ite, angle_ite, slips_ite]

@[simp] theorem takeSilence_frame :
    (takeSilence p).pins = p.pins ∧ (takeSilence p).phc = p.phc ∧ (takeSilence p).resetActive = p.resetActive ∧
    (takeSilence p).choices = p.choices ∧ (takeSilence p).clock = p.clock ∧ (takeSilence p).loader = p.loader ∧
    (takeSilence p).path = p.path ∧ (takeSilence p).disp = p.disp ∧ (takeSilence p).servo = p.servo ∧
    (takeSilence p).angle = p.angle ∧ (takeSilence p).timer = p.timer ∧ (takeSilence p).scanner = p.scanner ∧
    (takeSilence p).sender = p.sender ∧ (takeSilence p).slips = p.slips ∧ (takeSilence p).status = p.status ∧
    (takeSilence p).settings = p.settings ∧ (takeSilence p).derived = p.derived ∧
    (takeSilence p).placed = p.placed ∧ (takeSilence p).isOpen = p.isOpen := by
  simp [takeSilence, pins_ite, phc_ite, resetActive_ite, choices_ite, clock_ite, loader_ite, path_ite, disp_ite, servo_ite, angle_ite, timer_ite, scanner_ite, sender_ite, slips_ite, status_ite]

@[simp] theorem holdCapture_frame (micro : Tick) :
    (holdCapture micro p).pins = p.pins ∧ (holdCapture micro p).phc = p.phc ∧
    (holdCapture micro p).resetActive = p.resetActive ∧ (holdCapture micro p).choices = p.choices ∧
    (holdCapture micro p).clock = p.clock ∧ (holdCapture micro p).loader = p.loader ∧
    (holdCapture micro p).path = p.path ∧ (holdCapture micro p).disp = p.disp ∧
    (holdCapture micro p).servo = p.servo ∧ (holdCapture micro p).angle = p.angle ∧
    (holdCapture micro p).timer = p.timer ∧ (holdCapture micro p).scanner = p.scanner ∧
    (holdCapture micro p).sender = p.sender ∧ (holdCapture micro p).slips = p.slips ∧
    (holdCapture micro p).status = p.status ∧ (holdCapture micro p).settings = p.settings ∧
    (holdCapture micro p).derived = p.derived ∧ (holdCapture micro p).placed = p.placed ∧
    (holdCapture micro p).isOpen = p.isOpen := by
  simp [holdCapture, pins_ite, phc_ite, resetActive_ite, choices_ite, clock_ite, loader_ite, path_ite, disp_ite, servo_ite, angle_ite, timer_ite, scanner_ite, sender_ite, slips_ite, status_ite]

@[simp] theorem firstEdge_frame (micro : Tick) :
    (firstEdge micro p).pins = p.pins ∧ (firstEdge micro p).phc = p.phc ∧
    (firstEdge micro p).resetActive = p.resetActive ∧ (firstEdge micro p).choices = p.choices ∧
    (firstEdge micro p).clock = p.clock ∧ (firstEdge micro p).loader = p.loader ∧
    (firstEdge micro p).path = p.path ∧ (firstEdge micro p).disp = p.disp ∧
    (firstEdge micro p).servo = p.servo ∧ (firstEdge micro p).angle = p.angle ∧
    (firstEdge micro p).timer = p.timer ∧ (firstEdge micro p).scanner = p.scanner ∧
    (firstEdge micro p).sender = p.sender ∧ (firstEdge micro p).slips = p.slips ∧
    (firstEdge micro p).status = p.status ∧ (firstEdge micro p).settings = p.settings ∧
    (firstEdge micro p).derived = p.derived ∧ (firstEdge micro p).placed = p.placed ∧
    (firstEdge micro p).isOpen = p.isOpen := by
  simp [firstEdge, pins_ite, phc_ite, resetActive_ite, choices_ite, clock_ite, loader_ite, path_ite, disp_ite, servo_ite, angle_ite, timer_ite, scanner_ite, sender_ite, slips_ite, status_ite]

@[simp] theorem takeEdge_frame (micro : Tick) :
    (takeEdge micro p).pins = p.pins ∧ (takeEdge micro p).phc = p.phc ∧
    (takeEdge micro p).resetActive = p.resetActive ∧ (takeEdge micro p).choices = p.choices ∧
    (takeEdge micro p).clock = p.clock ∧ (takeEdge micro p).loader = p.loader ∧
    (takeEdge micro p).angle = p.angle ∧ (takeEdge micro p).slips = p.slips ∧
    (takeEdge micro p).settings = p.settings ∧ (takeEdge micro p).derived = p.derived ∧
    (takeEdge micro p).placed = p.placed ∧ (takeEdge micro p).isOpen = p.isOpen := by
  unfold takeEdge; (repeat' split) <;> simp [pins_ite, phc_ite, resetActive_ite, choices_ite, clock_ite, loader_ite, angle_ite, slips_ite]

@[simp] theorem startRead_frame :
    (startRead p).pins = p.pins ∧ (startRead p).phc = p.phc ∧ (startRead p).resetActive = p.resetActive ∧
    (startRead p).choices = p.choices ∧ (startRead p).clock = p.clock ∧ (startRead p).path = p.path ∧
    (startRead p).disp = p.disp ∧ (startRead p).servo = p.servo ∧ (startRead p).angle = p.angle ∧
    (startRead p).timer = p.timer ∧ (startRead p).scanner = p.scanner ∧ (startRead p).sender = p.sender ∧
    (startRead p).detector = p.detector ∧ (startRead p).slips = p.slips ∧ (startRead p).status = p.status := by
  simp [startRead, pins_ite, phc_ite, resetActive_ite, choices_ite, clock_ite, path_ite, disp_ite, servo_ite, angle_ite, timer_ite, scanner_ite, sender_ite, detector_ite, slips_ite, status_ite]

@[simp] theorem countServo_still : (countServo p).still = p.still := by
  simp [countServo, still_ite]
@[simp] theorem countServo_keeps : Keeps (countServo p) p :=
  Still.keeps (countServo_still _)
@[simp] theorem countServo_frame :
    (countServo p).choices = p.choices ∧ (countServo p).path = p.path ∧ (countServo p).disp = p.disp ∧
    (countServo p).angle = p.angle ∧ (countServo p).timer = p.timer ∧ (countServo p).scanner = p.scanner ∧
    (countServo p).sender = p.sender ∧ (countServo p).status = p.status := by
  simp [countServo, choices_ite, path_ite, disp_ite, angle_ite, timer_ite, scanner_ite, sender_ite, status_ite]

@[simp] theorem countScanner_still : (countScanner p).still = p.still := by
  simp [countScanner, still_ite]
@[simp] theorem countScanner_keeps : Keeps (countScanner p) p :=
  Still.keeps (countScanner_still _)
@[simp] theorem countScanner_frame :
    (countScanner p).choices = p.choices ∧ (countScanner p).path = p.path ∧ (countScanner p).disp = p.disp ∧
    (countScanner p).servo = p.servo ∧ (countScanner p).angle = p.angle ∧ (countScanner p).timer = p.timer ∧
    (countScanner p).sender = p.sender ∧ (countScanner p).status = p.status := by
  simp [countScanner, choices_ite, path_ite, disp_ite, servo_ite, angle_ite, timer_ite, sender_ite, status_ite]

@[simp] theorem countSender_still : (countSender p).still = p.still := by
  simp [countSender, still_ite]
@[simp] theorem countSender_keeps : Keeps (countSender p) p :=
  Still.keeps (countSender_still _)
@[simp] theorem countSender_frame :
    (countSender p).choices = p.choices ∧ (countSender p).path = p.path ∧ (countSender p).disp = p.disp ∧
    (countSender p).servo = p.servo ∧ (countSender p).angle = p.angle ∧ (countSender p).timer = p.timer ∧
    (countSender p).scanner = p.scanner ∧ (countSender p).status = p.status := by
  simp [countSender, choices_ite, path_ite, disp_ite, servo_ite, angle_ite, timer_ite, scanner_ite, status_ite]

@[simp] theorem expireJobTimer_frame :
    (expireJobTimer p).pins = p.pins ∧ (expireJobTimer p).phc = p.phc ∧
    (expireJobTimer p).resetActive = p.resetActive ∧ (expireJobTimer p).choices = p.choices ∧
    (expireJobTimer p).path = p.path ∧ (expireJobTimer p).disp = p.disp ∧ (expireJobTimer p).angle = p.angle ∧
    (expireJobTimer p).timer = p.timer ∧ (expireJobTimer p).detector = p.detector ∧
    (expireJobTimer p).slips = p.slips ∧ (expireJobTimer p).status = p.status := by
  simp [expireJobTimer, pins_ite, phc_ite, resetActive_ite, choices_ite, path_ite, disp_ite, angle_ite, timer_ite, detector_ite, slips_ite, status_ite]

@[simp] theorem failHoming_still : (failHoming p).still = p.still := by
  simp [failHoming, still_ite]
@[simp] theorem failHoming_keeps : Keeps (failHoming p) p :=
  Still.keeps (failHoming_still _)
@[simp] theorem failHoming_frame :
    (failHoming p).choices = p.choices ∧ (failHoming p).angle = p.angle := by
  simp [failHoming, choices_ite, angle_ite]

@[simp] theorem enterWaitLock_still : (enterWaitLock p).still = p.still := by
  simp [enterWaitLock, still_ite]
@[simp] theorem enterWaitLock_keeps : Keeps (enterWaitLock p) p :=
  Still.keeps (enterWaitLock_still _)
@[simp] theorem enterWaitLock_frame :
    (enterWaitLock p).choices = p.choices ∧ (enterWaitLock p).path = p.path ∧ (enterWaitLock p).disp = p.disp ∧
    (enterWaitLock p).servo = p.servo ∧ (enterWaitLock p).angle = p.angle ∧ (enterWaitLock p).timer = p.timer ∧
    (enterWaitLock p).sender = p.sender ∧ (enterWaitLock p).status = p.status := by
  simp [enterWaitLock, choices_ite, path_ite, disp_ite, servo_ite, angle_ite, timer_ite, sender_ite, status_ite]

@[simp] theorem findHome_still : (findHome p).still = p.still := by
  simp [findHome, still_ite]
@[simp] theorem findHome_keeps : Keeps (findHome p) p :=
  Still.keeps (findHome_still _)
@[simp] theorem findHome_frame :
    (findHome p).choices = p.choices ∧ (findHome p).path = p.path ∧ (findHome p).angle = p.angle ∧
    (findHome p).timer = p.timer ∧ (findHome p).sender = p.sender ∧ (findHome p).status = p.status := by
  simp [findHome, choices_ite, path_ite, angle_ite, timer_ite, sender_ite, status_ite]

@[simp] theorem stepForward_still : (stepForward p).still = p.still := by
  simp [stepForward, still_ite]
@[simp] theorem stepForward_keeps : Keeps (stepForward p) p :=
  Still.keeps (stepForward_still _)
@[simp] theorem stepForward_frame :
    (stepForward p).choices = p.choices ∧ (stepForward p).path = p.path ∧ (stepForward p).disp = p.disp ∧
    (stepForward p).servo = p.servo ∧ (stepForward p).angle = p.angle ∧ (stepForward p).timer = p.timer ∧
    (stepForward p).sender = p.sender := by
  simp [stepForward, choices_ite, path_ite, disp_ite, servo_ite, angle_ite, timer_ite, sender_ite]

@[simp] theorem stepHoming_still : (stepHoming p).still = p.still := by
  simp [stepHoming, still_ite]
@[simp] theorem stepHoming_keeps : Keeps (stepHoming p) p :=
  Still.keeps (stepHoming_still _)
@[simp] theorem stepHoming_frame :
    (stepHoming p).choices = p.choices ∧ (stepHoming p).path = p.path ∧ (stepHoming p).disp = p.disp ∧
    (stepHoming p).servo = p.servo ∧ (stepHoming p).angle = p.angle ∧ (stepHoming p).timer = p.timer ∧
    (stepHoming p).sender = p.sender ∧ (stepHoming p).status = p.status := by
  simp [stepHoming, choices_ite, path_ite, disp_ite, servo_ite, angle_ite, timer_ite, sender_ite, status_ite]

@[simp] theorem sampleTone_still : (sampleTone p).still = p.still := by
  simp [sampleTone, still_ite]
@[simp] theorem sampleTone_keeps : Keeps (sampleTone p) p :=
  Still.keeps (sampleTone_still _)
@[simp] theorem sampleTone_frame :
    (sampleTone p).choices = p.choices ∧ (sampleTone p).path = p.path ∧ (sampleTone p).disp = p.disp ∧
    (sampleTone p).servo = p.servo ∧ (sampleTone p).angle = p.angle ∧ (sampleTone p).timer = p.timer ∧
    (sampleTone p).scanner = p.scanner ∧ (sampleTone p).status = p.status := by
  simp [sampleTone, choices_ite, path_ite, disp_ite, servo_ite, angle_ite, timer_ite, scanner_ite, status_ite]

@[simp] theorem startSlip_frame :
    (startSlip p).pins = p.pins ∧ (startSlip p).phc = p.phc ∧ (startSlip p).resetActive = p.resetActive ∧
    (startSlip p).choices = p.choices ∧ (startSlip p).clock = p.clock ∧ (startSlip p).loader = p.loader ∧
    (startSlip p).disp = p.disp ∧ (startSlip p).servo = p.servo ∧ (startSlip p).angle = p.angle ∧
    (startSlip p).timer = p.timer ∧ (startSlip p).scanner = p.scanner ∧ (startSlip p).sender = p.sender ∧
    (startSlip p).detector = p.detector ∧ (startSlip p).status = p.status ∧
    (startSlip p).settings = p.settings ∧ (startSlip p).derived = p.derived ∧ (startSlip p).placed = p.placed ∧
    (startSlip p).isOpen = p.isOpen := by
  simp [startSlip, pins_ite, phc_ite, resetActive_ite, choices_ite, clock_ite, loader_ite, disp_ite, servo_ite, angle_ite, timer_ite, scanner_ite, sender_ite, detector_ite, status_ite]

@[simp] theorem startStatus_still : (startStatus p).still = p.still := by
  simp [startStatus, still_ite]
@[simp] theorem startStatus_keeps : Keeps (startStatus p) p :=
  Still.keeps (startStatus_still _)
@[simp] theorem startStatus_frame :
    (startStatus p).choices = p.choices ∧ (startStatus p).path = p.path ∧ (startStatus p).disp = p.disp ∧
    (startStatus p).servo = p.servo ∧ (startStatus p).angle = p.angle ∧ (startStatus p).timer = p.timer ∧
    (startStatus p).scanner = p.scanner ∧ (startStatus p).sender = p.sender := by
  simp [startStatus, choices_ite, path_ite, disp_ite, servo_ite, angle_ite, timer_ite, scanner_ite, sender_ite]

@[simp] theorem expireWindow_still : (expireWindow p).still = p.still := by
  simp [expireWindow, still_ite]
@[simp] theorem expireWindow_keeps : Keeps (expireWindow p) p :=
  Still.keeps (expireWindow_still _)
@[simp] theorem expireWindow_frame :
    (expireWindow p).choices = p.choices ∧ (expireWindow p).path = p.path ∧ (expireWindow p).disp = p.disp ∧
    (expireWindow p).servo = p.servo ∧ (expireWindow p).angle = p.angle ∧ (expireWindow p).timer = p.timer ∧
    (expireWindow p).scanner = p.scanner ∧ (expireWindow p).sender = p.sender := by
  simp [expireWindow, choices_ite, path_ite, disp_ite, servo_ite, angle_ite, timer_ite, scanner_ite, sender_ite]

@[simp] theorem endRead_frame :
    (endRead p).pins = p.pins ∧ (endRead p).phc = p.phc ∧ (endRead p).resetActive = p.resetActive ∧
    (endRead p).choices = p.choices ∧ (endRead p).clock = p.clock ∧ (endRead p).path = p.path ∧
    (endRead p).disp = p.disp ∧ (endRead p).servo = p.servo ∧ (endRead p).angle = p.angle ∧
    (endRead p).timer = p.timer ∧ (endRead p).scanner = p.scanner ∧ (endRead p).sender = p.sender ∧
    (endRead p).detector = p.detector ∧ (endRead p).slips = p.slips ∧ (endRead p).status = p.status := by
  simp [endRead]

@[simp] theorem refuseImage_frame :
    (refuseImage p).pins = p.pins ∧ (refuseImage p).phc = p.phc ∧ (refuseImage p).resetActive = p.resetActive ∧
    (refuseImage p).choices = p.choices ∧ (refuseImage p).clock = p.clock ∧ (refuseImage p).path = p.path ∧
    (refuseImage p).disp = p.disp ∧ (refuseImage p).servo = p.servo ∧ (refuseImage p).angle = p.angle ∧
    (refuseImage p).timer = p.timer ∧ (refuseImage p).scanner = p.scanner ∧ (refuseImage p).sender = p.sender ∧
    (refuseImage p).detector = p.detector ∧ (refuseImage p).slips = p.slips ∧
    (refuseImage p).status = p.status := by
  simp [refuseImage, pins_ite, phc_ite, resetActive_ite, choices_ite, clock_ite, path_ite, disp_ite, servo_ite, angle_ite, timer_ite, scanner_ite, sender_ite, detector_ite, slips_ite, status_ite]

@[simp] theorem acceptImage_frame :
    (acceptImage p).pins = p.pins ∧ (acceptImage p).phc = p.phc ∧ (acceptImage p).resetActive = p.resetActive ∧
    (acceptImage p).choices = p.choices ∧ (acceptImage p).clock = p.clock ∧ (acceptImage p).disp = p.disp ∧
    (acceptImage p).servo = p.servo ∧ (acceptImage p).angle = p.angle ∧ (acceptImage p).timer = p.timer ∧
    (acceptImage p).sender = p.sender ∧ (acceptImage p).detector = p.detector ∧
    (acceptImage p).slips = p.slips := by
  simp [acceptImage, pins_ite, phc_ite, resetActive_ite, choices_ite, clock_ite, disp_ite, servo_ite, angle_ite, timer_ite, sender_ite, detector_ite, slips_ite]

@[simp] theorem takeImageByte_frame (b : Byte) :
    (takeImageByte b p).pins = p.pins ∧ (takeImageByte b p).phc = p.phc ∧
    (takeImageByte b p).resetActive = p.resetActive ∧ (takeImageByte b p).choices = p.choices ∧
    (takeImageByte b p).clock = p.clock ∧ (takeImageByte b p).disp = p.disp ∧
    (takeImageByte b p).servo = p.servo ∧ (takeImageByte b p).angle = p.angle ∧
    (takeImageByte b p).timer = p.timer ∧ (takeImageByte b p).sender = p.sender ∧
    (takeImageByte b p).detector = p.detector ∧ (takeImageByte b p).slips = p.slips := by
  simp only [takeImageByte, pins_ite, phc_ite, resetActive_ite, choices_ite, clock_ite, disp_ite, servo_ite, angle_ite, timer_ite, sender_ite, detector_ite, slips_ite]; (repeat' split) <;> simp [pins_ite, phc_ite, resetActive_ite, choices_ite, clock_ite, disp_ite, servo_ite, angle_ite, timer_ite, sender_ite, detector_ite, slips_ite]

@[simp] theorem releaseReset_frame :
    (releaseReset p).pins = p.pins ∧ (releaseReset p).phc = p.phc ∧ (releaseReset p).choices = p.choices ∧
    (releaseReset p).loader = p.loader ∧ (releaseReset p).path = p.path ∧ (releaseReset p).disp = p.disp ∧
    (releaseReset p).servo = p.servo ∧ (releaseReset p).angle = p.angle ∧ (releaseReset p).timer = p.timer ∧
    (releaseReset p).scanner = p.scanner ∧ (releaseReset p).sender = p.sender ∧
    (releaseReset p).detector = p.detector ∧ (releaseReset p).slips = p.slips ∧
    (releaseReset p).status = p.status ∧ (releaseReset p).settings = p.settings ∧
    (releaseReset p).derived = p.derived ∧ (releaseReset p).placed = p.placed ∧
    (releaseReset p).isOpen = p.isOpen := by
  and_intros <;> rfl

@[simp] theorem countTick_frame :
    (countTick p).pins = p.pins ∧ (countTick p).phc = p.phc ∧ (countTick p).resetActive = p.resetActive ∧
    (countTick p).choices = p.choices ∧ (countTick p).loader = p.loader ∧ (countTick p).path = p.path ∧
    (countTick p).disp = p.disp ∧ (countTick p).servo = p.servo ∧ (countTick p).sender = p.sender ∧
    (countTick p).detector = p.detector ∧ (countTick p).slips = p.slips ∧ (countTick p).settings = p.settings ∧
    (countTick p).derived = p.derived ∧ (countTick p).placed = p.placed ∧ (countTick p).isOpen = p.isOpen := by
  simp [countTick, pins_ite, phc_ite, resetActive_ite, choices_ite, loader_ite, path_ite, disp_ite, servo_ite, sender_ite, detector_ite, slips_ite]

@[simp] theorem moveTick_frame :
    (moveTick p).pins = p.pins ∧ (moveTick p).phc = p.phc ∧ (moveTick p).resetActive = p.resetActive ∧
    (moveTick p).choices = p.choices ∧ (moveTick p).loader = p.loader ∧ (moveTick p).path = p.path ∧
    (moveTick p).disp = p.disp ∧ (moveTick p).angle = p.angle ∧ (moveTick p).timer = p.timer ∧
    (moveTick p).scanner = p.scanner ∧ (moveTick p).sender = p.sender ∧ (moveTick p).detector = p.detector ∧
    (moveTick p).slips = p.slips ∧ (moveTick p).status = p.status ∧ (moveTick p).settings = p.settings ∧
    (moveTick p).derived = p.derived ∧ (moveTick p).placed = p.placed ∧ (moveTick p).isOpen = p.isOpen := by
  unfold moveTick; split <;> simp [pins_ite, phc_ite, resetActive_ite, choices_ite, loader_ite, path_ite, disp_ite, angle_ite, timer_ite, scanner_ite, sender_ite, detector_ite, slips_ite, status_ite]

@[simp] theorem passTick_frame :
    (passTick p).pins = p.pins ∧ (passTick p).phc = p.phc ∧ (passTick p).resetActive = p.resetActive ∧
    (passTick p).choices = p.choices ∧ (passTick p).loader = p.loader ∧ (passTick p).path = p.path ∧
    (passTick p).disp = p.disp ∧ (passTick p).sender = p.sender ∧ (passTick p).detector = p.detector ∧
    (passTick p).slips = p.slips ∧ (passTick p).settings = p.settings ∧ (passTick p).derived = p.derived ∧
    (passTick p).placed = p.placed ∧ (passTick p).isOpen = p.isOpen := by
  simp [passTick, pins_ite, phc_ite, resetActive_ite, choices_ite, loader_ite, path_ite, disp_ite, sender_ite, detector_ite, slips_ite]

@[simp] theorem passMicro_frame :
    (passMicro p).pins = p.pins ∧ (passMicro p).phc = p.phc ∧ (passMicro p).resetActive = p.resetActive ∧
    (passMicro p).choices = p.choices ∧ (passMicro p).loader = p.loader ∧ (passMicro p).path = p.path ∧
    (passMicro p).disp = p.disp ∧ (passMicro p).servo = p.servo ∧ (passMicro p).angle = p.angle ∧
    (passMicro p).timer = p.timer ∧ (passMicro p).scanner = p.scanner ∧ (passMicro p).sender = p.sender ∧
    (passMicro p).slips = p.slips ∧ (passMicro p).status = p.status ∧ (passMicro p).settings = p.settings ∧
    (passMicro p).derived = p.derived ∧ (passMicro p).placed = p.placed ∧ (passMicro p).isOpen = p.isOpen := by
  simp [passMicro, pins_ite, phc_ite, resetActive_ite, choices_ite, loader_ite, path_ite, disp_ite, servo_ite, angle_ite, timer_ite, scanner_ite, sender_ite, slips_ite, status_ite]

@[simp] theorem startPwm_frame :
    (startPwm p).pins = p.pins ∧ (startPwm p).phc = p.phc ∧ (startPwm p).resetActive = p.resetActive ∧
    (startPwm p).choices = p.choices ∧ (startPwm p).path = p.path ∧ (startPwm p).disp = p.disp ∧
    (startPwm p).angle = p.angle ∧ (startPwm p).timer = p.timer ∧ (startPwm p).scanner = p.scanner ∧
    (startPwm p).sender = p.sender ∧ (startPwm p).detector = p.detector ∧ (startPwm p).slips = p.slips ∧
    (startPwm p).status = p.status ∧ (startPwm p).loader = p.loader ∧ (startPwm p).settings = p.settings ∧
    (startPwm p).derived = p.derived ∧ (startPwm p).placed = p.placed ∧ (startPwm p).isOpen = p.isOpen := by
  simp [startPwm]

@[simp] theorem movePwm_frame :
    (movePwm p).pins = p.pins ∧ (movePwm p).phc = p.phc ∧ (movePwm p).resetActive = p.resetActive ∧
    (movePwm p).choices = p.choices ∧ (movePwm p).path = p.path ∧ (movePwm p).disp = p.disp ∧
    (movePwm p).angle = p.angle ∧ (movePwm p).timer = p.timer ∧ (movePwm p).scanner = p.scanner ∧
    (movePwm p).sender = p.sender ∧ (movePwm p).detector = p.detector ∧ (movePwm p).slips = p.slips ∧
    (movePwm p).status = p.status ∧ (movePwm p).loader = p.loader ∧ (movePwm p).settings = p.settings ∧
    (movePwm p).derived = p.derived ∧ (movePwm p).placed = p.placed ∧ (movePwm p).isOpen = p.isOpen := by
  unfold movePwm; split <;> simp

/-- Half a period of the link moves only its clock and the count of bits sent (R18). -/
theorem clockLink_cases :
    clockLink p = p ∨ ∃ c n, clockLink p = p.onLoader fun l => { l with cfck := c, shifted := n } := by
  unfold clockLink; split
  · exact .inr ⟨_, _, rfl⟩
  · exact .inl rfl

@[simp] theorem clockLink_frame :
    (clockLink p).pins = p.pins ∧ (clockLink p).phc = p.phc ∧ (clockLink p).resetActive = p.resetActive ∧
    (clockLink p).choices = p.choices ∧ (clockLink p).clock = p.clock ∧ (clockLink p).path = p.path ∧
    (clockLink p).disp = p.disp ∧ (clockLink p).servo = p.servo ∧ (clockLink p).angle = p.angle ∧
    (clockLink p).timer = p.timer ∧ (clockLink p).scanner = p.scanner ∧ (clockLink p).sender = p.sender ∧
    (clockLink p).detector = p.detector ∧ (clockLink p).slips = p.slips ∧ (clockLink p).status = p.status ∧
    (clockLink p).settings = p.settings ∧ (clockLink p).derived = p.derived ∧ (clockLink p).placed = p.placed ∧
    (clockLink p).isOpen = p.isOpen := by
  rcases clockLink_cases p with h | ⟨c, n, h⟩ <;> rw [h] <;> and_intros <;> rfl

@[simp] theorem passBeat_frame :
    (passBeat p).pins = p.pins ∧ (passBeat p).phc = p.phc ∧ (passBeat p).resetActive = p.resetActive ∧
    (passBeat p).choices = p.choices ∧ (passBeat p).path = p.path ∧ (passBeat p).disp = p.disp ∧
    (passBeat p).sender = p.sender ∧ (passBeat p).slips = p.slips ∧ (passBeat p).settings = p.settings ∧
    (passBeat p).derived = p.derived ∧ (passBeat p).placed = p.placed ∧ (passBeat p).isOpen = p.isOpen := by
  simp only [passBeat, pins_ite, phc_ite, resetActive_ite, choices_ite, path_ite, disp_ite, sender_ite, slips_ite]; (repeat' split) <;> simp [pins_ite, phc_ite, resetActive_ite, choices_ite, path_ite, disp_ite, sender_ite, slips_ite]

/-- A beat leaves the device state and the settings in force. -/
@[simp] theorem passBeat_loader :
    (passBeat p).loader.device = p.loader.device ∧ (passBeat p).loader.accepted = p.loader.accepted := by
  simp only [passBeat]; (repeat' split) <;> simp <;> rcases clockLink_cases (movePwm p) with h | ⟨c, n, h⟩ <;> simp [h]

@[simp] theorem idleBeat_frame :
    (idleBeat p).pins = p.pins ∧ (idleBeat p).phc = p.phc ∧ (idleBeat p).resetActive = p.resetActive ∧
    (idleBeat p).choices = p.choices ∧ (idleBeat p).path = p.path ∧ (idleBeat p).disp = p.disp ∧
    (idleBeat p).sender = p.sender ∧ (idleBeat p).slips = p.slips ∧ (idleBeat p).settings = p.settings ∧
    (idleBeat p).derived = p.derived ∧ (idleBeat p).placed = p.placed ∧ (idleBeat p).isOpen = p.isOpen := by
  unfold idleBeat; split <;> simp [pins_ite, phc_ite, resetActive_ite, choices_ite, path_ite, disp_ite, sender_ite, slips_ite]

/-- An idle beat leaves the device state and the settings in force. -/
@[simp] theorem idleBeat_loader :
    (idleBeat p).loader.device = p.loader.device ∧ (idleBeat p).loader.accepted = p.loader.accepted := by
  unfold idleBeat; split <;> simp

end Sys2Proof.Machine
end

