-- ==== Sys2Proof/Laws/Path.lean ====
section
/-! SUPPORT. The memory path: what a grant, a service, a completion and a host access can do. -/

namespace Sys2Proof.Machine

variable (p : Part) (s : State)

/-! ## Grants -/

@[simp] theorem Part.grant_path (r : Requester) :
    (p.grant r).path = { p.path with port := .part (p.transferOf r) } := by
  unfold Part.grant; split <;> rfl

/-- A grant on an idle port is that of an outstanding request; otherwise nothing happens (R11). -/
theorem grantIdle_cases :
    grantIdle p = p ∨ ∃ r, p.path.port = .idle ∧ p.wants r = true ∧ grantIdle p = p.grant r := by
  unfold grantIdle
  split
  · rename_i r rs hp hr
    have hw : r ∈ p.requests := by rw [hr]; exact List.mem_cons_self
    exact .inr ⟨r, hp, (List.mem_filter.1 hw).2, rfl⟩
  · exact .inl rfl

/-- An idle port with a request outstanding is granted to the first in the order of Table 1.5-1. -/
theorem grantIdle_granted {r : Requester} {rs : List Requester} (hp : p.path.port = .idle)
    (hr : p.requests = r :: rs) : grantIdle p = p.grant r := by
  unfold grantIdle; rw [hp, hr]

/-- Every part transfer lies in RAM (R10). -/
theorem Part.transferOf_inside (r : Requester) : (p.transferOf r).offset < Config.ramSize := by
  cases r <;> simp only [Part.transferOf] <;> (try split) <;>
    first | exact ramOffset_bound _ | exact (by decide : (0 : Nat) < Config.ramSize)
where
  ramOffset_bound (n : Nat) : ramOffset n < Config.ramSize := Nat.mod_lt n (by decide)

theorem Part.transferOf_who (r : Requester) : (p.transferOf r).who = r := by
  cases r <;> simp only [Part.transferOf] <;> (try split) <;> rfl

/-- Only the port of the memory path can change at a grant. -/
theorem grantIdle_path : (grantIdle p).path = { p.path with port := (grantIdle p).path.port } := by
  rcases grantIdle_cases p with h | ⟨r, _, _, h⟩ <;> rw [h] <;> simp

/-- The close of an event changes the memory path at its port alone, and only when that is idle. -/
theorem closeEvent_path (before : Part) :
    (closeEvent before p).path = { p.path with port := (closeEvent before p).path.port } := by
  unfold closeEvent
  rw [grantIdle_path]
  simp

/-- A port that is not idle is left by the close of an event. -/
theorem closeEvent_port (before : Part) (h : p.path.port ≠ .idle) :
    (closeEvent before p).path.port = p.path.port := by
  unfold closeEvent
  rcases grantIdle_cases
    (markChanges before (settleDemand (finishJobs p).awaitsDispatch before (finishJobs p))) with h' | ⟨r, hp, _, _⟩
  · rw [h']; simp
  · simp at hp; exact absurd hp h

/-! ## The state around the part -/

@[simp] theorem State.onRam_part (f : Ram → Ram) : (s.onRam f).part = s.part := rfl
@[simp] theorem State.onRam_ram (f : Ram → Ram) : (s.onRam f).ram = f s.ram := rfl
@[simp] theorem State.onRam_pending (f : Ram → Ram) : (s.onRam f).pending = s.pending := rfl
@[simp] theorem State.closeFrom_ram (before : State) : (State.closeFrom before s).ram = s.ram := rfl
@[simp] theorem State.closeFrom_pending (before : State) : (State.closeFrom before s).pending = s.pending := rfl
@[simp] theorem State.closeFrom_part (before : State) :
    (State.closeFrom before s).part = closeEvent before.part s.part := rfl
@[simp] theorem freePort_ram : (freePort s).ram = s.ram := rfl
@[simp] theorem freePort_pending : (freePort s).pending = s.pending := rfl
@[simp] theorem freePort_part : (freePort s).part = s.part.onPath fun m => { m with port := .idle } := rfl

@[simp] theorem serveRead_ram (x : Nat) : (serveRead x s).ram = s.ram := rfl
@[simp] theorem serveRead_pending (x : Nat) : (serveRead x s).pending = s.pending := rfl

/-- The RAM after a host write is served (R2): unchanged when it is dropped. -/
theorem serveWrite_ram (x : Nat) (b : Byte) :
    (serveWrite x b s).ram = if s.part.drops x then s.ram else s.ram.write x b := by
  unfold serveWrite; split <;> simp

@[simp] theorem serveWrite_pending (x : Nat) (b : Byte) : (serveWrite x b s).pending = s.pending := by
  unfold serveWrite; split <;> simp

@[simp] theorem serveAccess_pending (a : HostAccess) : (serveAccess a s).pending = s.pending := by
  cases a <;> simp [serveAccess]

@[simp] theorem grantHost_pending (a : HostAccess) : (grantHost a s).pending = s.pending := by
  simp [grantHost]

@[simp] theorem finishTransfer_pending (t : Transfer) : (finishTransfer t s).pending = s.pending := by
  unfold finishTransfer; split <;> (try split) <;> simp

@[simp] theorem regrant_pending : (regrant s).pending = s.pending := by
  unfold regrant; (repeat' split) <;> simp

@[simp] theorem completeTransfer_pending : (completeTransfer s).pending = s.pending := by
  unfold completeTransfer; split <;> simp

@[simp] theorem freeBus_pending (n : Nat) : (freeBus n s).pending = s.pending := by
  induction n generalizing s with
  | zero => rfl
  | succ n ih => simp only [freeBus]; split <;> simp [ih]

@[simp] theorem arrive_pending (a : HostAccess) : (arrive a s).pending = s.pending := by
  unfold arrive; split <;> simp

@[simp] theorem hostAccess_pending (a : HostAccess) : (hostAccess a s).pending = s.pending := by
  simp [hostAccess]

@[simp] theorem readStatus_pending (i : Nat) : (readStatus i s).pending = s.pending := by
  unfold readStatus; split <;> simp

@[simp] theorem writeRequest_pending (i : Nat) (b : Byte) : (writeRequest i b s).pending = s.pending := by
  unfold writeRequest; split <;> simp

/-! ## A host access -/

/-- On an idle bus a host access is granted and served at once (R11). -/
theorem hostAccess_idle {s : State} (h : s.busIdle = true) (a : HostAccess) :
    hostAccess a s = State.closeFrom s (grantHost a s) := by
  obtain ⟨hp, hw⟩ : s.part.path.port = .idle ∧ s.part.path.waiting = none := by
    simpa [State.busIdle] using h
  simp [hostAccess, freeBus, State.busTaken, hw, hp, arrive]

/-- Behind a part transfer a host access is held on WAIT (R11). -/
theorem hostAccess_held {s : State} {t : Transfer} (hp : s.part.path.port = .part t)
    (hw : s.part.path.waiting = none) (a : HostAccess) :
    hostAccess a s = s.onPart fun p => p.onPath fun m => { m with waiting := some ⟨a, 0⟩, wait := true } := by
  simp [hostAccess, freeBus, State.busTaken, hw, hp, arrive]

/-- A status byte is read like any byte while the placement is in force (R3, R6). -/
theorem readStatus_placed {s : State} (h : s.part.placed = true) (i : Nat) :
    readStatus i s = hostAccess (.read (ramOffset (s.part.settings.statusBase + i))) s := by
  simp [readStatus, h]

/-- A request byte is written like any byte while the placement is in force (R3, R4, R5). -/
theorem writeRequest_placed {s : State} (h : s.part.placed = true) (i : Nat) (b : Byte) :
    writeRequest i b s = hostAccess (.write (ramOffset (s.part.settings.requestBase + i)) b) s := by
  simp [writeRequest, h]

end Sys2Proof.Machine
end

