-- ==== Sys2Proof/Laws/Close.lean ====
section
/-! SUPPORT. The close of an event: what it can do to jobs, demands, marks and causes. -/

namespace Sys2Proof.Machine

variable {p before : Part}

/-- Marking changes sets the dirty mark or nothing (R160). -/
theorem markChanges_cases (before p : Part) :
    markChanges before p = p ∨ markChanges before p = p.onStatus fun t => { t with dirty := true } := by
  unfold markChanges; split <;> simp

/-- Marking changes leaves every other field of the status writer. -/
theorem markChanges_status (before p : Part) :
    (markChanges before p).status = { p.status with dirty := (markChanges before p).status.dirty } := by
  rcases markChanges_cases before p with h | h <;> rw [h] <;> simp

/-- A job that is not over stays (R41). -/
theorem finishJob_running (slot : JobSlot) (h : p.jobOver slot = false) : finishJob slot p = p := by
  unfold finishJob Part.jobOver at *
  split
  · rfl
  · rename_i j hj; simp [hj] at h; simp [h]

/-- A settled part has no job to finish (R41). -/
theorem finishJobs_settled (h : p.settled = true) : finishJobs p = p := by
  simp only [Part.settled, Bool.and_eq_true, Bool.not_eq_true'] at h
  unfold finishJobs
  rw [if_neg (by simp [h.1.1.1.1.1]), finishJob_running .scan h.1.1.1.1.1, finishJob_running .relay h.1.1.1.1.2]

/-- An update of the servo that gives the servo back changes nothing. -/
theorem Part.onServo_self {f : Servo → Servo} (h : f p.servo = p.servo) : p.onServo f = p := by
  cases p; simp only [Part.onServo] at *; rw [h]

/-- A stopped lock timer is left by being stopped. -/
theorem stopLock_self {v : Servo} (h : v.lockRunning = false) : { v with lockRunning := false } = v := by
  obtain ⟨⟩ := v; exact h ▸ rfl

/-- A clear speed-fault mark is left by being cleared. -/
theorem clearFault_self {v : Servo} (h : v.speedFaultMark = false) : { v with speedFaultMark := false } = v := by
  obtain ⟨⟩ := v; exact h ▸ rfl

/-- A settled part has nothing to tidy at the servo (R64, R65). -/
theorem tidyServo_settled (h : p.settled = true) : tidyServo p = p := by
  simp only [Part.settled, Bool.and_eq_true, Bool.not_eq_true', Bool.or_eq_true] at h
  obtain ⟨⟨⟨⟨_, hl⟩, hm⟩, _⟩, _⟩ := h
  have h1 : (if p.servo.drum = .locked then p.onServo fun v => { v with lockRunning := false } else p) = p := by
    split
    · rename_i hd
      exact Part.onServo_self (stopLock_self (by simpa [hd] using hl))
    · rfl
  unfold tidyServo
  rw [h1]
  simp only []
  split
  · rfl
  · rename_i hj
    exact Part.onServo_self (clearFault_self (by simpa [hj] using hm))

/-- A mark of an open change is left by being put at its value. -/
theorem setUnsettled_self {v : Servo} {u : Option (Option Nat)} (h : v.unsettled = u) : { v with unsettled := u } = v := by
  obtain ⟨⟩ := v; exact h ▸ rfl

/-- With nothing left open and the demand in force as it was found, the servo does nothing (R52). -/
theorem actOnDemand_same (h : p.servo.unsettled = none) : actOnDemand p.servo.demands.inForce p = p := by
  unfold actOnDemand
  rw [Part.onServo_self (setUnsettled_self h), if_pos rfl]

/-- On a settled part with the demand in force unchanged at the event, the servo does nothing (R52): a change left to
a dispatch that is due stays left. -/
theorem settleDemand_settled (h : p.settled = true)
    (hd : before.servo.demands.inForce = p.servo.demands.inForce) :
    settleDemand p.awaitsDispatch before p = p := by
  have ht := tidyServo_settled h
  unfold settleDemand foundBefore
  cases hu : p.servo.unsettled with
  | none =>
    simp only [Option.getD_none, hd, actOnDemand_same hu]
    split
    · rw [leaveDemand, Part.onServo_self (by simpa using setUnsettled_self hu), ht]
    · exact ht
  | some was =>
    simp only [Part.settled, hu, Bool.and_eq_true, decide_eq_true_eq] at h
    simp only [Option.getD_some]
    rw [if_pos h.2.1, leaveDemand,
      Part.onServo_self (by rw [if_neg h.2.2]; exact setUnsettled_self hu), ht]

/-- On a settled part with the demand in force unchanged, the close of an event marks changes and grants. -/
theorem closeEvent_settled (h : p.settled = true)
    (hd : before.servo.demands.inForce = p.servo.demands.inForce) :
    closeEvent before p = grantIdle (markChanges before p) := by
  simp only [closeEvent]
  rw [finishJobs_settled h, settleDemand_settled h hd]

/-- A cause that is pending stays pending at a raise. -/
theorem Part.raise_pending (p : Part) (c : Attention) :
    (p.raise c).status.pending = p.status.pending ||| c.bit := rfl

end Sys2Proof.Machine
end

