-- ==== Sys2Proof/Laws/Ram.lean ====
section
/-! SUPPORT. The laws of RAM: a write gives its byte, leaves every other byte, and keeps the canonical form. -/

namespace Sys2Proof.Machine

theorem Ram.wfFrom_cons {lo a : Nat} {b : Byte} {m : Ram} :
    Ram.wfFrom lo ((a, b) :: m) = true ↔
      lo ≤ a ∧ a < Config.ramSize ∧ b ≠ Config.ramDefault ∧ Ram.wfFrom (a + 1) m = true := by
  simp [Ram.wfFrom, and_assoc]

/-- A canonical list from `hi` on is canonical from any lower offset. -/
theorem Ram.wfFrom_mono {lo hi : Nat} {m : Ram} (h : lo ≤ hi) (hm : Ram.wfFrom hi m = true) :
    Ram.wfFrom lo m = true := by
  cases m with
  | nil => rfl
  | cons c m => obtain ⟨a, b⟩ := c; rw [Ram.wfFrom_cons] at *; exact ⟨by omega, hm.2⟩

/-- Below a canonical list every byte is at its default. -/
theorem Ram.read_below {lo x : Nat} {m : Ram} (hm : Ram.wfFrom lo m = true) (h : x < lo) :
    Ram.read m x = Config.ramDefault := by
  induction m generalizing lo with
  | nil => rfl
  | cons c m ih =>
    obtain ⟨a, b⟩ := c
    rw [Ram.wfFrom_cons] at hm
    rw [Ram.read, if_neg (by omega)]
    exact ih hm.2.2.2 (by omega)

/-- A write leaves every other byte (R2). -/
theorem Ram.read_write_other {m : Ram} {x y : Nat} {v : Byte} (h : y ≠ x) :
    Ram.read (Ram.write m x v) y = Ram.read m y := by
  induction m with
  | nil => simp only [Ram.write]; split <;> simp [Ram.read, Ne.symm h]
  | cons c m ih =>
    obtain ⟨a, b⟩ := c
    simp only [Ram.write]
    split
    · simp [Ram.read, ih]
    · split
      · rename_i ha; subst ha; split <;> simp [Ram.read, Ne.symm h]
      · split <;> simp [Ram.read, Ne.symm h]

/-- A write gives its byte (R2). -/
theorem Ram.read_write_same {lo : Nat} {m : Ram} {x : Nat} {v : Byte} (hm : Ram.wfFrom lo m = true) :
    Ram.read (Ram.write m x v) x = v := by
  induction m generalizing lo with
  | nil => simp only [Ram.write]; split <;> simp_all [Ram.read]
  | cons c m ih =>
    obtain ⟨a, b⟩ := c
    rw [Ram.wfFrom_cons] at hm
    simp only [Ram.write]
    split
    · rename_i ha
      rw [Ram.read, if_neg (by omega)]
      exact ih hm.2.2.2
    · split
      · rename_i ha; subst ha
        split
        · rename_i hv; rw [hv]; exact Ram.read_below hm.2.2.2 (by omega)
        · simp [Ram.read]
      · rename_i h1 h2
        split
        · rename_i hv
          rw [Ram.read, if_neg h2, hv]
          exact Ram.read_below hm.2.2.2 (by omega)
        · simp [Ram.read]

theorem Ram.write_wfFrom {lo : Nat} {m : Ram} {x : Nat} {v : Byte} (hm : Ram.wfFrom lo m = true)
    (hlo : lo ≤ x) (hx : x < Config.ramSize) : Ram.wfFrom lo (Ram.write m x v) = true := by
  induction m generalizing lo with
  | nil =>
    simp only [Ram.write]
    split
    · rfl
    · simp_all [Ram.wfFrom]
  | cons c m ih =>
    obtain ⟨a, b⟩ := c
    rw [Ram.wfFrom_cons] at hm
    simp only [Ram.write]
    split
    · rw [Ram.wfFrom_cons]; exact ⟨hm.1, hm.2.1, hm.2.2.1, ih hm.2.2.2 (by omega)⟩
    · split
      · rename_i ha; subst ha
        split
        · exact Ram.wfFrom_mono (by omega) hm.2.2.2
        · rw [Ram.wfFrom_cons]; exact ⟨hm.1, hx, ‹_›, hm.2.2.2⟩
      · split
        · rw [Ram.wfFrom_cons]; exact hm
        · rw [Ram.wfFrom_cons]
          refine ⟨hlo, hx, ‹_›, ?_⟩
          rw [Ram.wfFrom_cons]
          exact ⟨by omega, hm.2⟩

/-- A write to an offset of RAM keeps the canonical form. -/
theorem Ram.write_wf {m : Ram} {x : Nat} {v : Byte} (hm : m.wf = true) (hx : x < Config.ramSize) :
    (Ram.write m x v).wf = true :=
  Ram.write_wfFrom hm (Nat.zero_le x) hx

/-- RAM after reset is in canonical form. -/
theorem Ram.reset_wf : State.reset.ram.wf = true := rfl

/-- An offset that the part forms lies in RAM (R10). -/
theorem ramOffset_lt (n : Nat) : ramOffset n < Config.ramSize :=
  Nat.mod_lt n (by decide)

end Sys2Proof.Machine
end

