-- ==== Sys2Proof/WellFormed.lean ====
section
/-! DEFINITION. Which commands are well formed. Every operand but one has a type that admits only what the
manual admits (a 15-bit offset, a byte, a 10-bit conversion, a 16-bit counter value). -/

namespace Sys2Proof

/-- UNKNOWN_COMMAND carries a code 07H..FFH (R42): 00H is no command and 01H..06H are the six commands.
Every other command is well formed whatever its operands. -/
def Instr.wellFormed : Instr → Bool
  | .unknownCommand code => decide (7 ≤ code.toNat)
  | _ => true

end Sys2Proof
end

