-- ==== Sys2Proof/Tests/Slice0.lean ====
section
/-! SUPPORT. Small tests, one step each, whose expected values are the manual's, and a witness for the hypotheses
of every statement. -/

open Sys2Proof Sys2Proof.Machine Sys2Proof.Claims

namespace Sys2Proof.Tests

set_option Elab.async false

/-! ## Small states -/

/-- Curve 0 of the tests: the points of Table 7.4-1 that its first two rows use, straight elsewhere. -/
def demoCurve : List Nat :=
  [0, 16, 32, 48, 64, 80, 96, 112, 128, 140, 150, 170, 190, 208, 224, 240, 255]

/-- Settings of the worked cases of chapter 7 (tones, noise limit, references, gain), with small structures. -/
def demo : Settings :=
  { Settings.blank with
    statusBase := 0x7FE0, requestBase := 0x7F00, jobBase := 0, slipBase := 0x100, scanBase := 0x1000,
    feedBase := 0x3000, strip := 16, image := 128, gap := 8, conversions := 4, noiseLimit := 24, minContrast := 100,
    stripFaultLimit := 3, defaultWhite := 880, defaultBlack := 120,
    curves := [demoCurve, demoCurve, demoCurve, demoCurve], blackTone := 1300, whiteTone := 2100, outputGain := 12,
    startRevs := 3, phasingRevs := 2, stopRevs := 2, pulseWidth := 8, ready := ⟨1650, 40⟩, halt := ⟨1100, 40⟩,
    receipt := ⟨2400, 60⟩, persistence := 8, readyTimeout := 2, receiptTimeout := 2, kp := 64, ki := 16,
    baseDuty0 := 400, baseDuty1 := 450, baseDuty2 := 500, spinupDuty := 800, lockWindow := 100, excursion := 200,
    faultLimit := 400, lockTimeout := 10, stallTime := 2, stepsPerLine := 4, returnStep := 1, homeTimeout := 5,
    positionLimit := 1000, lampSettle := 3, stallLimit := 5, statusSpacing := 1, windowExpiry := 200,
    attentionMask := 0xFF }

/-- A part with the demo settings in force, RESET inactive, in the given device state. -/
def partIn (device : DeviceState) : Part :=
  { Part.reset with
    resetActive := false,
    loader := { Part.reset.loader with device := device, accepted := some ⟨demo, demo.derive⟩ },
    path := { Part.reset.path with guards := { GuardSet.empty with statusBlock := some demo.statusRegion } },
    scanner := { Part.reset.scanner with white := 880, black := 120 } }

def openPart : Part := partIn .opened
def stateOf (p : Part) : State := ⟨p, [], []⟩
def opened : State := stateOf openPart
def closed : State := stateOf (partIn .closed)

/-- A job of a kind with a drum speed of 120 rpm, five lines, three start and two phasing revolutions. -/
def specOf (kind : JobKind) : JobSpec :=
  ⟨7, kind, 2, 5, 0, 3, 2, 12, false, false, false, false, false⟩

def storeJob : Job := newJob (specOf .store) true false
def liveJob : Job := newJob (specOf .live) true true
def relayJob : Job := newJob (specOf .relay) false true

/-- OPEN with a STORE whose scanner is in the given state, its demand on a drum in the given state. -/
def storing (scanner : ScannerState) (drum : DrumState) : Part :=
  { openPart with
    disp := { openPart.disp with scanJob := some storeJob },
    servo := { openPart.servo with drum := drum, target := 2, demands := ⟨some ⟨2, false⟩, none, none, none⟩ },
    scanner := { openPart.scanner with state := scanner } }

/-- OPEN with a RELAY whose sender is in the given state, on the line timer. -/
def relaying (sender : SenderState) : Part :=
  { openPart with
    disp := { openPart.disp with relayJob := some relayJob },
    timer := ⟨some .relay, 31250, 31250, true, 0⟩,
    sender := { openPart.sender with state := sender, onTimer := true } }

/-- OPEN with a record in the pending slot. -/
def pendingOf (kind : JobKind) (badField : Option Nat) (toCancel : Bool) : Part :=
  { openPart with disp := { openPart.disp with pendingJob := some ⟨specOf kind, badField, toCancel, false⟩ } }

/-- OPEN with a transfer on the port. -/
def porting (who : Requester) (p : Part) : Part :=
  { p with path := { p.path with port := .part ⟨who, 0x1234, 0x5A, false⟩ } }

/-- OPEN with the drum held by a SPIN, in the given state. -/
def spinning (drum : DrumState) : Part :=
  { openPart with
    servo := { openPart.servo with drum := drum, target := 2, reference := some 1000, quiet := 200,
                                   demands := ⟨none, none, none, some ⟨2, false⟩⟩ } }

def sensed : Pins := ⟨false, false, true⟩
def unsensed : Pins := ⟨false, false, false⟩

/-- A line of the feed ring in hand, its header and eight pixels read, three of them still in the FIFO. -/
def handLine : LineInHand := ⟨.feed, 0, .taken, 12, 4, 0, 0, 0, false⟩

/-- OPEN with a RELAY in IMAGE that has that line in hand. -/
def imaging : Part :=
  let p := relaying .image
  { p with sender := { p.sender with hand := some handLine, fifo := [1, 162, 3], held := 153 } }

/-- OPEN with a STORE in SCAN, its line open with the given bytes written. -/
def scanning (written : Nat) : Part :=
  let p := storing .scan .locked
  { p with
    scanner := { p.scanner with position := some 0,
                                openLine := some { freshLine 0 with written := written, noise := 3 } },
    path := { p.path with guards := { p.path.guards with scanFill := some (demo.scanSlot 0) } },
    angle := ⟨some 31250, 0, 20, 20⟩ }

/-- LOADING with a read in progress and some bytes of an image in. -/
def loadingPart (image : List Byte) : Part :=
  { Part.reset with resetActive := false,
                    loader := { Part.reset.loader with reading := true, sent := [0x03, 0x00], image := image } }

/-- The part that a command leaves. -/
def after (c : Instr) (p : Part) : Part :=
  match exec c (stateOf p) with
  | .next s => s.part
  | _ => p

/-- The RAM byte that a command leaves at an offset. -/
def ramAfter (c : Instr) (p : Part) (x : Nat) : Byte :=
  match exec c (stateOf p) with
  | .next s => s.ram.read x
  | _ => 0

/-! ## WellFormed -/

/-- R42: 03H is ABORT_SCAN, and no unknown command. -/
theorem test_wellFormed_refuses_known_code : (Instr.unknownCommand 3).wellFormed = false := by decide +kernel
theorem test_wellFormed_admits_unknown_code : (Instr.unknownCommand 7).wellFormed = true := by decide +kernel
/-- The table gives no row a bit, so no word spells a command. -/
theorem test_decode_has_no_words : decodeTableWord 8 0x41 = none := by decide +kernel

/-! ## Worked tables of the manual -/

/-- Table 7.1-1. -/
theorem test_mean_rows :
    slotMean [600, 604, 598, 606] = 602 ∧ slotMean [600, 604, 598] = 601 ∧ slotMean [601, 602] = 602 ∧
    slotSpread [600, 640, 598, 606] = 42 ∧ slotNoisy 24 [600, 640, 598, 606] = true ∧
    slotNoisy 24 [600, 604, 598, 606] = false ∧ slotNoisy 24 [1023] = false ∧ slotNoisy 24 [] = true := by decide +kernel
/-- Table 7.2-1. -/
theorem test_pixel_rows :
    [602, 601, 101, 120, 121, 122, 902, 879, 500].map (normalizedPixel 880 120) =
      [162, 161, 0, 0, 0, 1, 255, 255, 128] := by decide +kernel
/-- Table 7.2-2. -/
theorem test_held_pixels :
    imagePixel 24 880 120 none [600, 640, 598, 606] = 255 ∧
    imagePixel 24 880 120 (some 255) [600, 604, 598, 606] = 162 ∧ imagePixel 24 880 120 (some 162) [] = 162 := by
  decide +kernel
/-- Table 7.3-2: seven, six and five usable black slots. -/
theorem test_reference_rows :
    patchReference 32 8790 10 = some 879 ∧ patchReference 32 844 7 = some 121 ∧
    patchReference 32 723 6 = some 121 ∧ patchReference 32 602 5 = none := by decide +kernel
/-- Table 7.4-1, first row and the two that fall. -/
theorem test_curve_rows :
    curveLevel demoCurve 162 = 153 ∧ curveLevel demoCurve 160 = 150 ∧
    curveLevel [0, 0, 0, 0, 100, 91] 65 = 99 ∧ curveLevel [0, 0, 0, 0, 200, 120] 69 = 175 ∧
    curveLevel demoCurve 255 = 254 := by decide +kernel
/-- Tables 7.4-2 and 7.4-3. -/
theorem test_increment_rows :
    [0, 153, 255].map (levelIncrement 1300 2100) = [10650, 14582, 17203] ∧
    [0, 153, 255].map (levelIncrement 2100 1300) = [17203, 13271, 10650] := by decide +kernel
/-- Table 7.6-1. -/
theorem test_sine_points :
    [0, 16, 28, 32, 56, 64, 113, 128, 170, 192, 227].map sineTable =
      [0, 49, 81, 90, 125, 127, 46, 0, -109, -127, -83] := by decide +kernel
/-- Table 7.6-2, with the white increment at sample 6. -/
theorem test_samples_row :
    [14582, 29164, 43746, 58328, 7374, 24577].map (dacCode · 12) = [221, 162, 46, 65, 188, 195] ∧
    nextPhase 58328 14582 = 7374 ∧ nextPhase 7374 17203 = 24577 := by decide +kernel
/-- The table has its 65 points of the first quarter (R115). -/
theorem test_sine_quarter_whole : sineQuarter.length = 65 ∧ sineTable 63 = 127 ∧ sineTable 65 = 127 := by decide +kernel

/-- Settings of the servo's worked cases (section 4.4). -/
def servoDemo : Settings := { demo with kp := 48, ki := 16, baseDuty2 := 520, baseDuty0 := 600, spinupDuty := 900 }

/-- Table 4.4-1, and captures 5 to 8 of Table 4.4-2. -/
theorem test_pi_steps :
    piStep servoDemo 2 400 31410 = ⟨160, 560, 648⟩ ∧ piStep servoDemo 2 0 31410 = ⟨160, 160, 642⟩ ∧
    piStep servoDemo 2 160 31300 = ⟨50, 210, 560⟩ ∧ piStep servoDemo 2 210 31270 = ⟨20, 230, 538⟩ ∧
    piStep servoDemo 2 230 31240 = ⟨-10, 220, 515⟩ := by decide +kernel
/-- Table 4.4-3. -/
theorem test_pi_clamps :
    piStep servoDemo 0 0 31300 = ⟨-8191, -8191, 0⟩ ∧ piStep servoDemo 0 (-8191) 34000 = ⟨-8191, -16382, 0⟩ ∧
    piStep servoDemo 0 (-16382) 60100 = ⟨-2400, -18782, 0⟩ := by decide +kernel
/-- Table 4.3-1 for speed 2. -/
theorem test_spinup_limit : spinupLimit 2 = 39062 := by decide +kernel
/-- Table 5.2-2, Q = 576 and period 31 410. -/
theorem test_slot_offsets :
    [0, 1, 16, 32, 542, 543, 544, 575].map (startOffset 31410 576) =
      [0, 54, 872, 1745, 29555, 29610, 29665, 31355] ∧
    [0, 1, 16, 32, 542, 543, 544, 575].map (centreOffset 31410 576) =
      [27, 81, 899, 1772, 29583, 29637, 29692, 31382] := by decide +kernel
/-- Table 9.2-1. -/
theorem test_bands :
    demo.ready.band = ⟨592, 621⟩ ∧ demo.halt.band = ⟨878, 943⟩ ∧ demo.receipt.band = ⟨407, 427⟩ := by decide +kernel

/-! ## Witnesses: a state and operands that meet the hypotheses of each statement -/

/-- The next state of a state with a command in its queue, its front run. -/
def queued (p : Part) (cs : List Instr) : State := ⟨p, [], cs⟩

theorem witness_EveryStepKeepsRamCanonical :
    (queued openPart [.hostWrite 0x7FDF 0x5A]).ramGood = true ∧
      ∃ t, step (queued openPart [.hostWrite 0x7FDF 0x5A]) = .next t ∧ t.ram = [⟨0x7FDF, 0x5A⟩] :=
  ⟨by decide +kernel, _, rfl, by decide +kernel⟩

theorem witness_AttnFollowsPendingCausesAtEveryStep :
    (openPart.attnFollows = true ∧
      ∃ t, step (queued openPart [.unknownCommand 7]) = .next t ∧ t.part.status.attn = true) ∧
    (Part.reset.restsUnplaced = true ∧
      ∃ t, step (queued Part.reset [.resetRelease]) = .next t ∧ t.part.placed = false) :=
  ⟨⟨by decide +kernel, _, rfl, by decide +kernel⟩, by decide +kernel, _, rfl, by decide +kernel⟩

/-- Three slips queued and one job running. -/
def fullPart : Part :=
  let p := storing .homing .spinup
  let sl : Slip := ⟨specOf .store, .stored, Tally.zero⟩
  { p with disp := { p.disp with slipQueue := [sl, sl, sl] } }

theorem witness_SlipsAndJobsNeverPassFour :
    fullPart.slipLoad = 4 ∧ ∃ t, step (queued fullPart [.abortScan]) = .next t ∧ t.part.disp.scanJob ≠ none :=
  ⟨by decide +kernel, _, rfl, by decide +kernel⟩

theorem witness_EveryStepLeavesThePartSettled :
    (storing .homing .spinup).settled = true ∧
      ∃ t, step (queued (storing .homing .spinup) [.clear]) = .next t ∧ t.part.disp.scanJob = none :=
  ⟨by decide +kernel, _, rfl, by decide +kernel⟩

theorem witness_SettingsStandUntilReset :
    Instr.clear ≠ .reset ∧ closed.part.placed = true ∧
      (∃ t, exec .clear closed = .next t ∧ t.part.isOpen = true) ∧
      closed.pending = [] ∧ ∃ t, step closed = .next t ∧ t.part.clock.beatInTick = 1 :=
  ⟨by decide +kernel, by decide +kernel, ⟨_, rfl, by decide +kernel⟩, rfl, _, rfl, by decide +kernel⟩

theorem witness_DeviceStateMovesOnlyByItsTable :
    closed.part.acceptedPlaced = true ∧
      (∃ t, exec .clear closed = .next t ∧ t.part.loader.device = .opened) ∧
      (∃ t, exec .reset opened = .next t ∧ t.part.loader.device = .loading) ∧
      ∃ t, exec (.imageByteReceived 0) (stateOf (loadingPart [])) = .next t ∧ t.part.loader.device = .passOnly :=
  ⟨by decide +kernel, ⟨_, rfl, by decide +kernel⟩, ⟨_, rfl, by decide +kernel⟩, _, rfl, by decide +kernel⟩

/-- A CLEAR that waits for the port opens the part when the transfer before it completes (R8, R26). -/
theorem test_waiting_clear_opens :
    let p := porting .statusWriter { partIn .closed with status := { openPart.status with write := some 3 } }
    let q := { p with path := { p.path with waiting := some ⟨.write 0x7F05 0x01, 1⟩, wait := true } }
    (after .transferComplete q).loader.device = .opened := by decide +kernel

/-- The first and the last byte of the status block are guarded, and written by the host. -/
theorem witness_GuardedBytesSurviveHostCommands :
    isHostCommand (.hostWrite 0x7FE0 3) = true ∧ opened.busIdle = true ∧ opened.part.placed = true ∧
      opened.part.path.guards.covers 0x7FE0 = true ∧ opened.part.path.guards.covers 0x7FFF = true := by decide +kernel

/-- Conversions of every kind the clauses take: one, eight at the ends of the range, two different. -/
theorem witness_SlotMeanAndSpread :
    (∀ xs ∈ [[1023], [0], [1023, 1023, 1023, 1023, 1023, 1023, 1023, 1023], [0, 1023]],
      xs ≠ [] ∧ xs.length ≤ 8 ∧ ∀ x ∈ xs, x ≤ 1023) ∧
    [1023].length = 1 ∧ ∃ x ∈ [0, 1023], ∃ y ∈ [0, 1023], x ≠ y := by decide +kernel

/-- The means at and beside both references. -/
theorem witness_NormalizedPixelIsTheRoundedRatio :
    120 < 880 ∧ (0 ≤ 120 ∧ 120 ≤ 120) ∧ (880 ≤ 880 ∧ 880 ≤ 1023) ∧ (120 < 121 ∧ 121 < 880) ∧
      120 < 879 ∧ 879 < 880 := by decide +kernel

theorem witness_CurveLevelLiesOnItsSegment :
    demoCurve.length = 17 ∧ (∀ c ∈ demoCurve, c ≤ 255) ∧ 0 ≤ 255 ∧ 240 % 16 = 0 ∧ 255 ≤ 255 := by decide +kernel

theorem witness_IncrementsLieBetweenTheTones :
    ∀ c ∈ [(800, 3000, 0), (3000, 800, 255), (1300, 2100, 153), (800, 800, 255)],
      800 ≤ c.1 ∧ c.1 ≤ 3000 ∧ 800 ≤ c.2.1 ∧ c.2.1 ≤ 3000 ∧ c.2.2 ≤ 255 := by decide +kernel

/-- The ends of the bands of Table 9.2-1, in settings that pass the relation check. -/
theorem witness_AcceptedBandsNeverShareACycle :
    demo.relationsGood = true ∧ demo.ready.band.holds 592 = true ∧ demo.ready.band.holds 621 = true ∧
      demo.halt.band.holds 878 = true ∧ demo.halt.band.holds 943 = true := by decide +kernel

/-- Periods at which no clamp is reached, and the ends of the error clamp. -/
theorem witness_PiStepStaysInItsClamps :
    let e : Int := (31410 : Nat) - (Config.nominalPeriod 2 : Int)
    let l := piStep servoDemo 2 400 31410
    let d := (servoDemo.baseDuty 2 : Int) + (servoDemo.kp : Int) * l.error / 64 + (servoDemo.ki : Int) * l.integral / 1024
    (-8191 ≤ e ∧ e ≤ 8191) ∧ (-32768 ≤ 400 + l.error ∧ 400 + l.error ≤ 32767) ∧ 0 ≤ d ∧ d ≤ 1024 := by
  decide +kernel

/-- A scanning part with one byte in its FIFO. -/
def scanByte : Part := { scanning 0 with scanner := { (scanning 0).scanner with fifo := [0xA2] } }

/-- Each requester at its first and its last byte: the header of a scan line follows its pixels (R95). -/
theorem witness_MarksRaisesAndGrants_of_each_requester :
    let line := fun n : Nat => { imaging with sender := { imaging.sender with hand := some { handLine with nextRead := n } } }
    let fill := fun n : Nat => { scanning n with scanner := { (scanning n).scanner with fifo := [0xA2] } }
    let status := fun n : Nat => { openPart with status := { openPart.status with write := some n } }
    let slip := fun n : Nat => { openPart with
      slips := { openPart.slips with write := some ⟨1, n⟩ },
      disp := { openPart.disp with slipQueue := [⟨specOf .store, .stored, Tally.zero⟩] } }
    let fetch := fun n : Nat => { openPart with disp := { openPart.disp with fetch := some ⟨2, List.replicate n 1⟩ } }
    ([0, 131].map fun n => ((line n).transferOf .lineSender).offset) = [0x3000, 0x3083] ∧
    ([0, 127, 128, 131].map fun n => ((fill n).transferOf .scanner).offset) = [0x1004, 0x1083, 0x1000, 0x1003] ∧
    ((fill 0).transferOf .scanner).byte = 0xA2 ∧
    ([0, 31].map fun n => ((status n).transferOf .statusWriter).offset) = [0x7FE0, 0x7FFF] ∧
    ([0, 47].map fun n => ((slip n).transferOf .slipWriter).offset) = [0x130, 0x15F] ∧
    ([0, 15].map fun n => ((fetch n).transferOf .dispatcher).offset) = [0x20, 0x2F] ∧
    ((line 131).wants .lineSender && (fill 131).wants .scanner && (status 31).wants .statusWriter &&
      (slip 47).wants .slipWriter && (fetch 15).wants .dispatcher) = true ∧
    (line 132).wants .lineSender = false := by decide +kernel

/-- A port that is held; a part that wants nothing; and the scanner alone wanting the port. -/
theorem witness_MarksRaisesAndGrants :
    (porting .scanner openPart).path.port ≠ .idle ∧
    (∀ r ∈ [Requester.lineSender, .scanner, .statusWriter, .slipWriter, .dispatcher], openPart.wants r = false) ∧
    scanByte.path.port = .idle ∧ scanByte.wants .scanner = true ∧
    ∀ r ∈ [Requester.lineSender, .statusWriter, .slipWriter, .dispatcher], scanByte.wants r = false := by
  decide +kernel

/-- Offsets at the ends of RAM and beside the status block and the request block, with and without a placement;
request byte 5 with 00H. -/
theorem witness_HostAccessesServedAtOnce :
    quiet opened ∧ quiet State.reset ∧ State.reset.part.placed = false ∧ opened.ram.wf = true ∧
    (∀ x ∈ [0x0000, 0x7FDF, 0x7FE2, 0x7FFE], ∀ i ∈ [0, 1, 31],
      (BitVec.ofNat 15 x).toNat ≠ opened.part.settings.statusBase + i) ∧
    (∀ x ∈ [0x0000, 0x7EFF, 0x7F06, 0x7FDF], opened.part.path.guards.covers (BitVec.ofNat 15 x).toNat = false ∧
      ∀ i < 6, (BitVec.ofNat 15 x).toNat ≠ opened.part.settings.requestBase + i) ∧
    opened.part.path.guards.covers 0x7F05 = false ∧
      (0x7F05#15).toNat = opened.part.settings.requestBase + 5 := by decide +kernel

theorem witness_DroppedWriteActsOnTheGuardState :
    quiet opened ∧ opened.part.placed = true ∧ opened.part.path.guards.covers (0x7FE0#15).toNat = true ∧
    opened.part.path.guards.covers (0x7FFF#15).toNat = true ∧
    openPart.path.guards.statusBlock = some openPart.settings.statusRegion ∧
    openPart.settings.statusBase ≤ 0x7FFF ∧ 0x7FFF < openPart.settings.statusBase + 32 := by decide +kernel

/-- OPEN with a host transfer on the port. -/
def hostPorting : Part := { openPart with path := { openPart.path with port := .host } }

theorem witness_HostAccessWaitsItsTurn :
    ((porting .scanner openPart).path.port = .part ⟨.scanner, 0x1234, 0x5A, false⟩ ∧
      (porting .scanner openPart).path.waiting = none) ∧
    hostPorting.path.port = .host ∧ hostPorting.path.waiting = none ∧
      ∃ t, exec .transferComplete (stateOf hostPorting) = .next t ∧ t.part.path.port = .idle :=
  ⟨by decide +kernel, by decide +kernel, by decide +kernel, _, rfl, by decide +kernel⟩

/-- OPEN with a read window open. -/
def windowed : Part := { openPart with status := { openPart.status with window := some 4999 } }

theorem witness_StatusReadsAndTheirWindow :
    (quiet opened ∧ opened.part.placed = true ∧ opened.part.settings.statusBase + 31 < Config.ramSize) ∧
      windowed.status.window = some 4999 := by decide +kernel

theorem witness_JobProducerWriteIsTaken : writable 0 opened ∧ opened.part.isOpen = true := by decide +kernel

theorem witness_ConsumerIndicesAreJudged :
    opened.part.isOpen = true ∧ writable 1 opened ∧ writable 3 opened := by decide +kernel

theorem witness_RequestBytesAreCopied :
    (writable 2 opened ∧ opened.part.isOpen = true) ∧ (writable 4 opened ∧ opened.part.placed = true) ∧
      closed.part.loader.device = .closed ∧ writable 0 closed ∧ writable 1 closed ∧ writable 2 closed ∧
      writable 3 closed := by decide +kernel

theorem witness_CommandsThatAreOnlyEchoed :
    (writable 5 closed ∧ closed.part.loader.device = .closed) ∧ (writable 5 opened ∧ opened.part.isOpen = true) ∧
      7 ≤ (0x07#8).toNat ∧ 7 ≤ (0xFF#8).toNat := by decide +kernel

theorem witness_ClearInOpenStopsEverything :
    writable 5 (stateOf (scanning 4)) ∧ (scanning 4).isOpen = true := by decide +kernel

/-- OPEN with this command argument. -/
def arguing (b : Byte) (p : Part) : State := stateOf { p with path := { p.path with argument := b } }

/-- Codes 3 and 2; a hold behind a scanner's demand; a first hold on a stopped drum. -/
theorem witness_SpinPlacesTheHold :
    (writable 5 (arguing 3 openPart) ∧ (arguing 3 openPart).part.isOpen = true ∧
      3 ≤ (arguing 3 openPart).part.path.argument.toNat) ∧
    (writable 5 (arguing 2 (storing .homing .spinup)) ∧
      (storing .homing .spinup).awaitsDispatch = false ∧
      let d := (storing .homing .spinup).servo.demands
      ({ d with hold := some ⟨2, false⟩ } : Demands).inForce = d.inForce) ∧
    (arguing 2 openPart).part.path.argument.toNat < 3 ∧ openPart.servo.demands.inForce = none ∧
      openPart.servo.drum = .stopped := by decide +kernel

/-- A turning drum under a hold of speed code 2 with a measured period: the longest that lets a change to code 1 enter
LOCKING, and one more. -/
def measured (drum : DrumState) (more : Nat) : Part :=
  let p := spinning drum
  { p with servo := { p.servo with period := Config.nominalPeriod 1 + Config.nominalPeriod 1 / 4 + more } }

theorem witness_SpinPlacesTheHold_on_a_turning_drum :
    ∀ drum ∈ [DrumState.spinup, .locking, .locked, .spindown], ∀ more ∈ [0, 1],
      let p := measured drum more
      writable 5 (arguing 1 p) ∧ p.isOpen = true ∧ p.servo.drum ≠ .stopped ∧ p.awaitsDispatch = false ∧
        ({ p.servo.demands with hold := some ⟨1, false⟩ } : Demands).inForce ≠ p.servo.demands.inForce := by
  decide +kernel

/-- A change of target enters LOCKING at the limit and SPINUP past it (R57). -/
theorem test_change_of_target :
    let drumAfter := fun more => match exec .spin (arguing 1 (measured .locked more)) with
      | .next s => s.part.servo.drum
      | _ => .stopped
    drumAfter 0 = .locking ∧ drumAfter 1 = .spinup := by decide +kernel

/-- A LOCKED drum at speed code 2 whose STORE has ended, and whose next job is still to be dispatched (R33): the
demand that was in force is gone, and the change is left open. -/
def handedOver (kind : JobKind) : Part :=
  let p := pendingOf kind none false
  { p with servo := { p.servo with drum := .locked, target := 2, integral := 5, duty := 500, nextDuty := 500,
                                   unsettled := some (some 2) } }

/-- A SPIN and a RELEASE_SPIN put between the end of a job and the dispatch of the next; a SPIN at the speed that was
in force closes the change, another leaves it open. -/
theorem witness_commands_while_a_dispatch_is_due :
    ∀ kind ∈ [JobKind.store, .live], ∀ code ∈ [(1 : Byte), 2],
      let p := handedOver kind
      writable 5 (arguing code p) ∧ p.isOpen = true ∧ p.awaitsDispatch = true ∧ lastFound p.servo = some 2 ∧
        ((({ p.servo.demands with hold := some ⟨code.toNat, false⟩ } : Demands).inForce = some 2) ↔ code = 2) := by
  decide +kernel

/-- The change left open takes effect when the waiting record is marked to cancel (R44, R53). -/
theorem test_marked_record_ends_the_drive :
    let p := after .abortAll (handedOver .store)
    p.servo.drum = .spindown ∧ p.servo.duty = 0 ∧ p.servo.unsettled = none := by decide +kernel

/-- A hold behind a scanner's demand; a hold that alone drives the drum, locked and not. -/
theorem witness_ReleaseSpinWithdrawsTheHolds :
    (writable 5 (stateOf (storing .homing .spinup)) ∧ (storing .homing .spinup).isOpen = true ∧
      (storing .homing .spinup).awaitsDispatch = false ∧
      let d := (storing .homing .spinup).servo.demands
      ({ d with carry := none, hold := none } : Demands).inForce = d.inForce) ∧
    ∀ drum ∈ [DrumState.spinup, .locked],
      writable 5 (stateOf (spinning drum)) ∧ (spinning drum).isOpen = true ∧
      (spinning drum).servo.demands.inForce ≠ none ∧
      ({ (spinning drum).servo.demands with carry := none, hold := none } : Demands).inForce = none ∧
      (spinning drum).servo.drum ≠ .stopped ∧ (spinning drum).servo.drum ≠ .spindown ∧
      (spinning drum).awaitsDispatch = false := by decide +kernel

/-- No demand at all, on a drum at rest and on one that runs down. -/
theorem witness_ReleaseSpin_with_nothing_to_withdraw :
    ∀ drum ∈ [DrumState.stopped, .spindown],
      let p := { spinning drum with servo := { (spinning drum).servo with demands := Demands.none } }
      writable 5 (stateOf p) ∧ p.isOpen = true ∧ p.servo.drum = drum ∧
        ({ p.servo.demands with carry := none, hold := none } : Demands).inForce = none := by decide +kernel

/-- A running job that already has a first cause. -/
def faulted (j : Job) : Job := { j with firstCause := some .lampFault }

/-- OPEN with the STORE of `storing .back`, its fault already taken. -/
def faultedStore : Part :=
  let p := storing .back .locked
  { p with disp := { p.disp with scanJob := some (faulted storeJob) } }

/-- OPEN with a RELAY in STOP, its fault already taken. -/
def faultedRelay : Part :=
  let p := relaying .stop
  { p with disp := { p.disp with relayJob := some (faulted relayJob) } }

theorem witness_AbortsNameTheRunningJob :
    (writable 5 opened ∧ opened.part.isOpen = true ∧ openPart.senderSlot = none ∧ openPart.disp.scanJob = none) ∧
    (writable 5 (stateOf faultedRelay) ∧ faultedRelay.isOpen = true ∧ faultedRelay.senderSlot = some .relay ∧
      faultedRelay.jobAt .relay = some (faulted relayJob)) ∧
    (writable 5 (stateOf faultedStore) ∧ faultedStore.isOpen = true ∧
      faultedStore.disp.scanJob = some (faulted storeJob)) ∧
    (writable 5 (stateOf (relaying .image)) ∧ (relaying .image).isOpen = true ∧
      (relaying .image).senderSlot = some .relay ∧ (relaying .image).jobAt .relay = some relayJob ∧
      relayJob.firstCause = none) ∧
    writable 5 (stateOf (scanning 4)) ∧ (scanning 4).isOpen = true ∧ (scanning 4).disp.scanJob = some storeJob ∧
      storeJob.firstCause = none := by decide +kernel

/-- A STORE in SCAN that owes the last four of its steps, and the same with HOME active. -/
def scanOwing (home : Bool) : Part :=
  let p := scanning 4
  { p with pins := ⟨home, false, true⟩,
           scanner := { p.scanner with position := some 4, stepsOwed := 4, lamp := true, homeCount := 9 } }

/-- A LIVE with its sender and its scanner in these states, the line in hand from the scan ring. -/
def livePart (sender : SenderState) (scanner : ScannerState) (cause : Option Cause) : Part :=
  let p := storing scanner .locked
  { p with disp := { p.disp with scanJob := some { liveJob with firstCause := cause } },
           sender := { p.sender with state := sender, hand := some { handLine with ring := .scan } } }

theorem witness_AbortsNameTheRunningJob_wind_down :
    (∀ home : Bool, writable 5 (stateOf (scanOwing home)) ∧ (scanOwing home).isOpen = true ∧
      (scanOwing home).disp.scanJob = some storeJob ∧ (scanOwing home).pins.home = home ∧
      (scanOwing home).scanner.state = .scan) ∧
    storeJob.firstCause = none ∧ storeJob.scannerSide = ⟨true, false⟩ ∧ storeJob.senderSide.active = false ∧
    (∀ sender ∈ [SenderState.start, .phasing, .image, .stop], ∀ scanner ∈ [ScannerState.waitLock, .scan, .back],
      let p := livePart sender scanner none
      writable 5 (stateOf p) ∧ p.isOpen = true ∧ p.disp.scanJob = some liveJob ∧ p.disp.relayJob = none ∧
        p.pins.home = false ∧ p.sender.state = sender) ∧
    liveJob.spec.kind = .live ∧ liveJob.firstCause = none ∧ liveJob.scannerSide = ⟨true, false⟩ ∧
      liveJob.senderSide = ⟨true, false⟩ := by decide +kernel

/-- The line is abandoned, its slot leaves the guard set and the steps owed come off the position (R103); with HOME
active the STORE ends at once in position 0, where no homing begins (R104). -/
theorem test_abort_winds_the_scanner_down :
    let p := after .abortScan (scanOwing false)
    let q := after .abortScan (scanOwing true)
    (p.scanner.state = .back ∧ p.scanner.homing = true ∧ p.scanner.lamp = false ∧ p.scanner.openLine = none ∧
      p.scanner.position = some 0 ∧ p.scanner.stepsOwed = 0 ∧ p.path.guards.scanFill = none) ∧
    q.scanner.state = .idle ∧ q.scanner.position = some 0 ∧ q.scanner.homeCount = 9 ∧ q.disp.scanJob = none ∧
      (q.disp.slipQueue.map fun sl => sl.result) = [.aborted] := by decide +kernel

/-- OPEN with one entry of four in the job ring, its index at the end. -/
def ringed : Part := { openPart with disp := { openPart.disp with jobProducer := 0, jobConsumer := 3 } }

theorem witness_AbortAllReachesJobsPendingAndRing :
    (writable 5 opened ∧ opened.part.isOpen = true ∧ openPart.disp.scanJob = none ∧ openPart.disp.relayJob = none ∧
      openPart.disp.pendingJob = none ∧ openPart.disp.fetch = none ∧
      openPart.disp.jobProducer = openPart.disp.jobConsumer) ∧
    (writable 5 (stateOf ringed) ∧ ringed.isOpen = true ∧ ringed.disp.scanJob = none ∧
      ringed.disp.relayJob = none ∧ ringed.disp.jobProducer ≠ ringed.disp.jobConsumer) ∧
    writable 5 (stateOf (storing .warmup .locked)) ∧ (storing .warmup .locked).isOpen = true ∧
      (storing .warmup .locked).jobAt .scan = some storeJob ∧ storeJob.firstCause = none := by decide +kernel

/-- A record at the gate with a change of the demand in force left open for it. -/
theorem witness_AbortAllReachesJobsPendingAndRing_between_jobs :
    let p := handedOver .store
    writable 5 (stateOf p) ∧ p.isOpen = true ∧ p.disp.scanJob = none ∧ p.disp.relayJob = none ∧
      p.disp.pendingJob ≠ none ∧ lastFound p.servo ≠ p.servo.demands.inForce := by decide +kernel

/-- One state for each requester: the status write and the slip write at their boundary bytes, a header read past
and a pixel in time, a fetch at its fifteenth byte. -/
def requesting : Requester → Nat → Part
  | .lineSender, n =>
    { porting .lineSender imaging with sender := { imaging.sender with hand := some { handLine with nextRead := n } } }
  | .scanner, n => porting .scanner (scanning n)
  | .statusWriter, n => porting .statusWriter { openPart with status := { openPart.status with write := some n } }
  | .slipWriter, n =>
    porting .slipWriter { openPart with
      slips := { openPart.slips with write := some ⟨0, n⟩ },
      disp := { openPart.disp with slipQueue := [⟨specOf .store, .stored, Tally.zero⟩] } }
  | .dispatcher, n =>
    porting .dispatcher { openPart with
      disp := { openPart.disp with fetch := some ⟨0, List.replicate n 1⟩, jobProducer := 1 } }

theorem witness_TransferCompleteMovesTheByte :
    (hostPorting.settled = true ∧ (stateOf hostPorting).ram.wf = true ∧ hostPorting.path.waiting = none ∧
      hostPorting.path.port = .host) ∧
    (∀ c ∈ [(Requester.scanner, 3), (.lineSender, 4), (.lineSender, 131), (.statusWriter, 0), (.statusWriter, 1),
        (.statusWriter, 31), (.slipWriter, 0), (.slipWriter, 46), (.dispatcher, 0), (.dispatcher, 14)],
      (requesting c.1 c.2).settled = true ∧ (requesting c.1 c.2).path.waiting = none ∧
      (requesting c.1 c.2).path.port = .part ⟨c.1, 0x1234, 0x5A, false⟩) ∧
    (requesting .lineSender 4).sender.hand = some { handLine with nextRead := 4 } ∧
    (requesting .statusWriter 31).status.write = some 31 ∧
    (requesting .slipWriter 46).slips.write = some ⟨0, 46⟩ ∧
    (requesting .dispatcher 14).disp.fetch = some ⟨0, List.replicate 14 1⟩ := by decide +kernel

/-- The four header bytes of the first feed line, whose number is right with a low byte of 0 and wrong with 1; and a
withdrawn transfer. -/
theorem witness_TransferCompleteMovesTheByte_of_a_header :
    (∀ n ∈ [0, 1, 2, 3], ∀ low ∈ [0x00#8, 0x01],
      let h := { handLine with nextRead := n, headerLow := low }
      let p := requesting .lineSender n
      let q := { p with sender := { p.sender with hand := some h },
                        disp := { p.disp with relayJob := some { relayJob with tally.linesFresh := 1 } } }
      q.settled = true ∧ q.path.waiting = none ∧ q.path.port = .part ⟨.lineSender, 0x1234, 0x5A, false⟩ ∧
        q.sender.hand = some h ∧ h.kind = .taken ∧ h.ring = .feed) ∧
    (∀ who ∈ [Requester.lineSender, .scanner],
      let p := { openPart with path := { openPart.path with port := .part ⟨who, 0x1234, 0x5A, true⟩ } }
      p.settled = true ∧ p.path.waiting = none) ∧
    (0x00#8).toNat + 256 * (0x00#8).toNat + 1 = 1 ∧ (0x01#8).toNat + 256 * (0x00#8).toNat + 1 ≠ 1 := by
  decide +kernel

/-- A host access that waits behind a transfer with a count. -/
def behind (n : Nat) (p : Part) : Part :=
  { p with path := { p.path with waiting := some ⟨.read 0, n⟩, wait := true } }

/-- RELAY in IMAGE with 16 pixels, one byte on the port and more of its line to read. -/
def lowFifo : Part :=
  let p := requesting .lineSender 20
  behind 0 { p with sender := { p.sender with fifo := List.replicate 15 1 } }

/-- A scanner with 48 pixels and a header byte on the port. -/
def highFifo : Part :=
  let p := requesting .scanner 3
  behind 0 { p with scanner := { p.scanner with fifo := List.replicate 48 1 } }

def afterTransfer (p : Part) (t : Transfer) : Part := (finishTransfer t (freePort (stateOf p))).part

theorem witness_CompletionGrantsByTheWaitingCount :
    (∀ n ∈ [0, 1], (behind n (requesting .dispatcher 3)).path.port = .part ⟨.dispatcher, 0x1234, 0x5A, false⟩ ∧
      (behind n (requesting .dispatcher 3)).path.waiting = some ⟨.read 0, n⟩) ∧
    (let p := behind 0 (requesting .dispatcher 3)
     let u := afterTransfer p ⟨.dispatcher, 0x1234, 0x5A, false⟩
     u.wants .lineSender = false ∧ u.wants .scanner = false) ∧
    (let u := afterTransfer lowFifo ⟨.lineSender, 0x1234, 0x5A, false⟩
     lowFifo.path.waiting = some ⟨.read 0, 0⟩ ∧ u.wants .lineSender = true ∧ u.sender.fifo.length = 16) ∧
    (let u := afterTransfer highFifo ⟨.scanner, 0x1234, 0x5A, false⟩
     highFifo.path.waiting = some ⟨.read 0, 0⟩ ∧ u.wants .lineSender = false ∧ u.wants .scanner = true ∧
       u.scanner.fifo.length = 48) := by decide +kernel

/-- A host access held on WAIT behind a transfer that is no longer to be preferred. -/
def held (a : HostAccess) (p : Part) : Part :=
  { p with path := { p.path with waiting := some ⟨a, 1⟩, wait := true } }

/-- A read of either end of RAM; a write beside the status block, into it, and of request byte 5. -/
theorem witness_CompletionGrantsByTheWaitingCount_and_serves :
    let p := requesting .dispatcher 3
    p.settled = true ∧ (stateOf p).ram.wf = true ∧
    (∀ x ∈ [0x0000, 0x7FFF], (held (.read x) p).path.waiting = some ⟨.read (BitVec.ofNat 15 x).toNat, 1⟩) ∧
    (∀ c ∈ [(0x7FDF, false), (0x7FE0, true), (0x7FFF, true), (0x7F05, false)],
      let q := held (.write c.1 5) p
      let u := afterTransfer q ⟨.dispatcher, 0x1234, 0x5A, false⟩
      q.path.waiting = some ⟨.write (BitVec.ofNat 15 c.1).toNat 5, 1⟩ ∧ u.placed = true ∧
        u.path.guards.covers c.1 = c.2) := by
  decide +kernel

/-- Table 1.3-1: a CLEAR held on WAIT in CLOSED opens the device when it is granted (R11, R26). -/
theorem test_held_clear_is_taken :
    let p := porting .statusWriter (partIn .closed)
    let q := after (.hostWrite 0x7F05 1) p
    q.path.wait = true ∧ q.loader.device = .closed ∧ (after .transferComplete q).loader.device = .opened := by
  decide +kernel

theorem witness_FetchStartGuardsTheEntry :
    ringed.settled = true ∧ ringed.isOpen = true ∧ ringed.disp.pendingJob = none ∧ ringed.disp.fetch = none ∧
      ringed.disp.jobProducer ≠ ringed.disp.jobConsumer := by decide +kernel

theorem witness_LastFetchByteTakesTheRecord :
    (requesting .dispatcher 15).settled = true ∧ (requesting .dispatcher 15).path.waiting = none ∧
    (requesting .dispatcher 15).path.port = .part ⟨.dispatcher, 0x1234, 0x5A, false⟩ ∧
    (requesting .dispatcher 15).disp.fetch = some ⟨0, List.replicate 15 1⟩ ∧
    (List.replicate 15 (1 : Byte)).length = 15 ∧
    (requesting .dispatcher 15).disp.jobProducer ≠ (requesting .dispatcher 15).disp.jobConsumer := by decide +kernel

/-- A LIVE that waits behind a STORE in SCAN and a RELAY in IMAGE with one slip queued: marked or not. -/
def waitingGate (toCancel held : Bool) : Part :=
  let p := relaying .image
  { p with disp := { p.disp with scanJob := some storeJob, pendingJob := some ⟨specOf .live, none, toCancel, held⟩,
                                 slipQueue := [⟨specOf .relay, .sent, Tally.zero⟩], jobProducer := 3, jobConsumer := 1 },
           servo := (storing .scan .locked).servo,
           scanner := { p.scanner with state := .scan } }

/-- The records that wait, and a marked one held while nothing is in its way. -/
theorem witness_DispatchOfAJobThatStartsNoSide_waits :
    (∀ c ∈ [(false, false), (false, true), (true, true)],
      let p := waitingGate c.1 c.2
      p.settled = true ∧ p.isOpen = true ∧ p.slipLoad = 3 ∧ p.resourcesFree .live = false ∧
        p.disp.pendingJob = some ⟨specOf .live, none, c.1, c.2⟩) ∧
    (let p := { openPart with disp := { openPart.disp with pendingJob := some ⟨specOf .live, none, true, true⟩ } }
     p.settled = true ∧ p.slipLoad < 4 ∧ p.resourcesFree .live = true) := by decide +kernel

/-- The ABORT_ALL of Table 3.4-2 finds the LIVE at the gate, with the part still running both jobs after it. -/
theorem witness_AbortAllReachesJobsPendingAndRing_at_the_gate :
    let p := waitingGate false false
    writable 5 (stateOf p) ∧ p.isOpen = true ∧ p.jobAt .relay = some relayJob ∧ p.runningJobs = 2 ∧
      (after .abortAll p).runningJobs = 2 ∧ p.gatePasses ⟨specOf .live, none, false, false⟩ = false := by decide +kernel

/-- Table 3.4-2, its first two rows: the marked LIVE waits until the RELAY has sent its stop signal, and passes as
CANCELLED at that event, where 2 + 1 is below 4. -/
theorem test_marked_record_waits_for_the_gate :
    let p := after .abortAll (waitingGate false false)
    let q := after .lineTimerExpiry (after .lineTimerExpiry p)
    let due := fun t : Part => t.dueStarts.any fun d => d.1 && decide (d.2 = .dispatch t.pins)
    due p = false ∧ (p.disp.pendingJob.map fun r => r.toCancel) = some true ∧
      due (after .lineTimerExpiry p) = false ∧ q.slipLoad = 3 ∧ due q = true ∧
      ((after (.dispatch sensed) q).disp.slipQueue.map fun sl => sl.result) = [.sent, .aborted, .cancelled] := by
  decide +kernel

/-- A record to cancel, a bad one, and a LIVE and a RELAY without LSN. -/
theorem witness_DispatchOfAJobThatStartsNoSide :
    (∀ p ∈ [pendingOf .store none true, pendingOf .store (some 3) false, pendingOf .live none false,
        pendingOf .relay none false],
      p.settled = true ∧ p.isOpen = true ∧ p.slipLoad < 4 ∧ p.resourcesFree .live = true ∧
      p.resourcesFree .relay = true) ∧
    (pendingOf .store none true).disp.pendingJob = some ⟨specOf .store, none, true, false⟩ ∧
    (pendingOf .store (some 3) false).disp.pendingJob = some ⟨specOf .store, some 3, false, false⟩ ∧
    (pendingOf .relay none false).disp.pendingJob = some ⟨specOf .relay, none, false, false⟩ ∧ unsensed.lsn = false := by
  decide +kernel

/-- A STORE and a LIVE, each with HOME active and inactive. -/
theorem witness_DispatchStartsTheScanner :
    (∀ kind ∈ [JobKind.store, .live],
      (pendingOf kind none false).settled = true ∧ (pendingOf kind none false).isOpen = true ∧
      (pendingOf kind none false).disp.pendingJob = some ⟨specOf kind, none, false, false⟩ ∧
      (pendingOf kind none false).slipLoad < 4 ∧ (pendingOf kind none false).disp.scanJob = none ∧
      (pendingOf kind none false).servo.demands.inForce = none ∧
      (pendingOf kind none false).servo.drum = .stopped ∧ (pendingOf kind none false).disp.relayJob = none) ∧
    sensed.lsn = true ∧ sensed.home = false ∧ (⟨true, false, true⟩ : Pins).home = true := by decide +kernel

/-- The drum still LOCKED at the speed of the last job, at the next one's and at another, and a LIVE whose line is
gone by its dispatch. -/
theorem witness_DispatchStartsTheScanner_between_jobs :
    (∀ kind ∈ [JobKind.store, .live], ∀ was ∈ [some 2, some 1, none],
      let p := { handedOver kind with servo := { (handedOver kind).servo with
        unsettled := if was = none then none else some was } }
      p.settled = true ∧ p.isOpen = true ∧ p.disp.pendingJob = some ⟨specOf kind, none, false, false⟩ ∧
        p.slipLoad < 4 ∧ p.disp.scanJob = none ∧ p.disp.relayJob = none ∧ lastFound p.servo = was) ∧
    ∀ pins ∈ [sensed, unsensed], (after (.dispatch pins) (handedOver .live)).servo.drum =
      if pins.lsn then .locked else .spindown := by decide +kernel

theorem witness_DispatchStartsARelay :
    (pendingOf .relay none false).settled = true ∧ (pendingOf .relay none false).isOpen = true ∧
    (pendingOf .relay none false).disp.pendingJob = some ⟨specOf .relay, none, false, false⟩ ∧
    (pendingOf .relay none false).slipLoad < 4 ∧ (specOf .relay).kind = .relay ∧
    (pendingOf .relay none false).senderSlot = none ∧ sensed.lsn = true := by decide +kernel

/-- A slip in the queue and a free entry. -/
def slipReady : Part :=
  { openPart with disp := { openPart.disp with slipQueue := [⟨specOf .store, .stored, Tally.zero⟩] } }

/-- A dirty block with the given urgent mark and spacing count. -/
def dirtyPart (urgent : Bool) (spacing : Option Nat) : Part :=
  { openPart with status := { openPart.status with dirty := true, urgent := urgent, spacing := spacing } }

theorem witness_SlipAndStatusWritesStart :
    (slipReady.settled = true ∧ slipReady.isOpen = true ∧ slipReady.disp.slipQueue ≠ [] ∧
      slipReady.slips.write = none ∧
      (slipReady.slips.producer + 1) % slipReady.settings.slipSize ≠ slipReady.disp.slipConsumer) ∧
    (∀ p ∈ [dirtyPart true (some 0), dirtyPart false none, dirtyPart false (some 125)],
      p.settled = true ∧ p.placed = true ∧ p.status.dirty = true ∧ p.status.write = none ∧ p.status.window = none) ∧
    (dirtyPart true (some 0)).status.urgent = true ∧ (dirtyPart false none).status.spacing = none ∧
    (dirtyPart false (some 125)).status.spacing = some 125 ∧ openPart.settings.statusSpacing * 125 ≤ 125 := by
  decide +kernel

theorem witness_LastSlipByteEndsTheWrite :
    (requesting .slipWriter 47).settled = true ∧ (stateOf (requesting .slipWriter 47)).ram.wf = true ∧
    (requesting .slipWriter 47).path.waiting = none ∧
    (requesting .slipWriter 47).path.port = .part ⟨.slipWriter, 0x1234, 0x5A, false⟩ ∧
    (requesting .slipWriter 47).slips.write = some ⟨0, 47⟩ := by decide +kernel

/-- OPEN with counts running, and LOADING before the image is read. -/
theorem witness_JobTimerExpiryCounts :
    (storing .homing .spinup).resetActive = false ∧ (relaying .calling).resetActive = false ∧
      ({ Part.reset with resetActive := false } : Part).resetActive = false := by decide +kernel

/-- WARMUP with the lamp count at its setting. -/
def warmed (kind : JobKind) : Part :=
  let p := storing .warmup .locked
  { p with disp := { p.disp with scanJob := some (newJob (specOf kind) true false) },
           scanner := { p.scanner with lampCount := p.derived.lampCount } }

theorem witness_LampSettleEndsWarmup :
    ∀ kind ∈ [JobKind.store, .live], (warmed kind).settled = true ∧ (warmed kind).scanner.state = .warmup ∧
      (warmed kind).derived.lampCount ≤ (warmed kind).scanner.lampCount := by decide +kernel

/-- HOMING or RETURN with a homing under way and its timeout reached. -/
def homingAt (state : ScannerState) : Part :=
  let p := storing state .locked
  { p with scanner := { p.scanner with homing := true, reverse := true, homeCount := p.derived.homeCount } }

theorem witness_HomingEndsFoundOrFailed :
    ∀ state ∈ [ScannerState.homing, .back],
      (homingAt state).settled = true ∧ (homingAt state).placed = true ∧ (homingAt state).scanner.homing = true ∧
      (homingAt state).scanner.state = state ∧ (homingAt state).disp.scanJob = some storeJob ∧
      storeJob.spec.kind = .store ∧ storeJob.scannerSide = ⟨true, false⟩ ∧ storeJob.senderSide.active = false ∧
      (homingAt state).scanner.openLine = none ∧ storeJob.firstCause = none ∧
      (homingAt state).derived.homeCount ≤ (homingAt state).scanner.homeCount := by decide +kernel

/-- A STORE in RETURN on a LOCKED drum at speed code `speed`, with this record in the pending slot. -/
def returningAt (speed : Nat) (next : Option PendingJob) : Part :=
  let p := homingAt .back
  { p with
    disp := { p.disp with scanJob := some { storeJob with spec := { storeJob.spec with speed := speed } },
                          pendingJob := next },
    servo := { p.servo with drum := .locked, target := speed, period := 31000, integral := 5, duty := 510,
                            nextDuty := 510, demands := ⟨some ⟨speed, false⟩, none, none, none⟩ } }

/-- Both ends of a STORE on a LOCKED drum: with the next dispatch due and without one. -/
theorem witness_HomingEndsFoundOrFailed_before_a_dispatch :
    ∀ next ∈ [none, some ⟨specOf .store, none, false, false⟩],
      let p := returningAt 2 next
      p.settled = true ∧ p.placed = true ∧ p.scanner.homing = true ∧ p.scanner.state = .back ∧
        p.servo.drum.driven = true ∧ (after .homeActive p).awaitsDispatch = next.isSome := by decide +kernel

/-- R52: between two STOREs of one speed the drum stays LOCKED with I and D as they are; a STORE of another speed
changes the target once, from the measured period; with none to follow the drive ends. -/
theorem test_drum_between_jobs :
    let next := some ⟨specOf .store, none, false, false⟩
    let p := (after .homeActive (returningAt 2 next)).servo
    let q := (after (.dispatch sensed) (after .homeActive (returningAt 2 next))).servo
    let r := (after (.dispatch sensed) (after .homeActive (returningAt 1 next))).servo
    (p.drum, p.integral, p.duty, p.demands.scanner) = (.locked, 5, 510, none) ∧
      (q.drum, q.integral, q.duty, q.lockRunning, q.unsettled) = (.locked, 5, 510, false, none) ∧
      q.demands.scanner = some ⟨2, false⟩ ∧ (r.drum, r.target, r.integral, r.duty) = (.locking, 2, 0, 500) ∧
      (after .homeActive (returningAt 2 none)).servo.drum = .spindown := by decide +kernel

/-- A part whose lock timer has reached its count. -/
def lockLate (p : Part) : Part :=
  { p with servo := { p.servo with lockRunning := true, lockTimer := p.derived.lockCount } }

/-- A STORE that already has a first cause, in RETURN on a drum that is still locking. -/
def faultedLocking : Part := { faultedStore with servo := { faultedStore.servo with drum := .locking } }

theorem witness_LockTimeoutOffersNoLock :
    (∀ p ∈ [lockLate (spinning .spinup), lockLate (storing .waitLock .locking), lockLate faultedLocking],
      p.settled = true ∧ p.servo.lockRunning = true ∧ p.derived.lockCount ≤ p.servo.lockTimer) ∧
    (lockLate (spinning .spinup)).disp.scanJob = none ∧
    (lockLate (storing .waitLock .locking)).disp.scanJob = some storeJob ∧ storeJob.firstCause = none ∧
    (lockLate faultedLocking).disp.scanJob = some (faulted storeJob) ∧ (faulted storeJob).firstCause ≠ none ∧
    (faulted storeJob).spec.kind = .store := by decide +kernel

/-- A drum that has been quiet for the stall time. -/
def stalled (p : Part) : Part := { p with servo := { p.servo with quiet := p.derived.stallCount } }

theorem witness_StallTimeStopsTheDrum :
    (∀ drum ∈ [DrumState.spindown, .spinup, .locking, .locked],
      (stalled (spinning drum)).settled = true ∧
      (stalled (spinning drum)).derived.stallCount ≤ (stalled (spinning drum)).servo.quiet ∧
      (stalled (spinning drum)).servo.drum = drum ∧ (stalled (spinning drum)).drumHasJob = false ∧
      demandSpeed (stalled (spinning drum)).servo.demands.scanner = none) ∧
    (stalled (scanning 4)).settled = true ∧
    (stalled (scanning 4)).derived.stallCount ≤ (stalled (scanning 4)).servo.quiet ∧
    (stalled (scanning 4)).servo.drum = .locked ∧ (stalled (scanning 4)).disp.scanJob = some storeJob ∧
    (stalled (scanning 4)).drumHasJob = true ∧ storeJob.firstCause = none ∧
    (stalled (scanning 4)).disp.relayJob = none ∧ storeJob.senderSide.active = false := by decide +kernel

/-- A LIVE with a tone on, on a drum that stalls: its cause to come, and taken before. -/
theorem witness_StallTimeStopsTheDrum_of_a_LIVE :
    ∀ sender ∈ [SenderState.start, .phasing, .image, .stop], ∀ cause ∈ [none, some Cause.halted],
      let p := stalled (livePart sender .scan cause)
      p.settled = true ∧ p.derived.stallCount ≤ p.servo.quiet ∧ p.servo.drum = .locked ∧
        p.disp.scanJob = some { liveJob with firstCause := cause } ∧ p.drumHasJob = true ∧
        p.disp.relayJob = none ∧ p.sender.onTimer = false ∧ p.sender.state = sender := by decide +kernel

/-- A RELAY at its timeouts. -/
def late (state : SenderState) : Part :=
  let p := relaying state
  { p with sender := { p.sender with timeout := max p.derived.readyCount p.derived.receiptCount, lossCount := 10 } }

theorem witness_SenderTimeoutsEndARelay :
    ∀ state ∈ [SenderState.calling, .awaitReceipt, .image],
      (late state).settled = true ∧ relaySends (late state) relayJob ∧ (late state).sender.state = state ∧
      (late state).derived.readyCount ≤ (late state).sender.timeout ∧
      (late state).derived.receiptCount ≤ (late state).sender.timeout ∧ 10 ≤ (late state).sender.lossCount ∧
      (late state).sender.lossOffered = false := by decide +kernel

/-- LINE_LOST in IMAGE releases the feed line in hand (R137): its slot is free and FEEDFREE is raised. -/
theorem test_line_lost_releases_the_line :
    let p := { late .image with sender := { (late .image).sender with hand := some handLine } }
    let q := after .lineLost p
    p.settled = true ∧ relaySends p relayJob ∧ q.sender.state = .idle ∧ q.sender.feedConsumer = 1 ∧
      q.status.pending &&& Attention.feedFree.bit ≠ 0 := by decide +kernel

theorem witness_TickWrapAndPwmPeriod :
    (spinning .locked).resetActive = false ∧ (spinning .locked).clock.pwmCount < 1024 ∧
      ({ (spinning .locked).clock with pwmCount := 1023 } : Timebase).pwmCount < 1024 := by decide +kernel

/-- A drum held by a SPIN, the counts of its state given. -/
def counting (drum : DrumState) (good lock outside : Nat) : Part :=
  let p := spinning drum
  { p with servo := { p.servo with goodCount := good, lockCount := lock, outsideCount := outside } }

/-- A STORE in SCAN on a LOCKED drum: its first line whole, and its fourth cut short by a longer old schedule. -/
def capturing (whole : Bool) : Part :=
  let p := if whole then scanning 132 else scanning 4
  { p with servo := { p.servo with reference := some 1000 },
           angle := ⟨some (if whole then 31250 else 33000), 0, if whole then 145 else 20, 20⟩,
           scanner := { p.scanner with position := some (if whole then 995 else 999), line := if whole then 3 else 4,
                                       stall := 3 } }

/-- No reference; the same tick after a wrap and the next tick; each count below and at its limit, with the largest
period of SPINUP and the largest error of the window, and one more. -/
theorem witness_IndexCaptureMeasuresThePeriod :
    (∀ p ∈ [openPart, { spinning .locked with servo := { (spinning .locked).servo with reference := none } },
        spinning .spindown, counting .spinup 0 0 0, counting .spinup 1 0 0, counting .locking 2 0 0,
        counting .locking 2 1 0, counting .locking 2 2 0, counting .locked 2 3 6, counting .locked 2 3 7],
      p.settled = true ∧ p.resetActive = false ∧ p.placed = true ∧ p.disp.scanJob = none ∧ p.senderSlot = none ∧
      p.sender.state ≠ .image ∧ p.clock.tick.toNat ≤ 1000) ∧
    (counting .locking 2 2 0).servo.reference = some 1000 ∧ (40062#16 ≠ 1000 ∧ 40063#16 ≠ 1000) ∧
    (let limit := Config.nominalPeriod 2 + Config.nominalPeriod 2 / 4
     40062 - 1000 ≤ limit ∧ limit < 40063 - 1000) ∧
    (piStep demo 2 0 (32350 - 1000)).error.natAbs = demo.lockWindow ∧
    (piStep demo 2 0 (32351 - 1000)).error.natAbs = demo.lockWindow + 1 := by decide +kernel

/-- A capture past the counter's wrap (R51): 15 714 + 65 536 − 50 000 is the nominal period. -/
theorem witness_IndexCapture_past_the_wrap :
    let p := counting .locked 2 3 0
    let p := { p with clock := { p.clock with tick := 60000 }, servo := { p.servo with reference := some 50000 } }
    p.settled = true ∧ (15714#16).toNat < p.clock.tick.toNat ∧ p.servo.reference.isSome = true ∧
      min 255 (p.servo.wraps + 1) ≠ 0 ∧ (after (.indexCapture 15714 sensed false) p).servo.period = 31250 := by
  decide +kernel

/-- The captures with a STORE in SCAN: the last line but one committed at the highest position, and the last line
cut one short of the stall limit; a sender at rest, and one on the line timer. -/
theorem witness_IndexCapture_of_a_scan :
    (∀ whole : Bool, let p := capturing whole
      p.settled = true ∧ p.resetActive = false ∧ p.placed = true ∧ p.disp.scanJob = some storeJob ∧
      p.scanner.state = .scan ∧ p.scanner.fifo = [] ∧ p.servo.drum = .locked ∧ p.servo.reference = some 1000 ∧
      p.senderSlot = none ∧ p.sender.state ≠ .image ∧ p.clock.tick.toNat ≤ 32350 ∧
      p.scanner.openLine = some { freshLine 0 with written := if whole then 132 else 4, noise := 3 } ∧
      p.angle.schedule.isSome = true) ∧
    storeJob.spec.kind = .store ∧ sensed.travelEnd = false ∧
    ((piStep demo 2 0 31350).error.natAbs = demo.lockWindow ∧ demo.lockWindow ≤ demo.faultLimit) ∧
    (let p := capturing true
     demo.strip + demo.image < p.angle.nextStart ∧ p.scanner.line + 1 + 1 = storeJob.spec.lines ∧
       (p.scanner.position.map (· + demo.stepsPerLine)).getD 0 + 1 = demo.positionLimit ∧
       (p.scanner.producer + 2) % demo.scanSize ≠ p.scanner.releaseCopy) ∧
    (let p := capturing false
     p.angle.nextStart ≤ demo.strip + demo.image ∧
       max p.angle.elapsed 31250 < p.angle.schedule.getD 0 * 144 / p.derived.slots ∧
       min 63 (p.scanner.stall + 1) + 1 = demo.stallLimit ∧ p.scanner.line + 1 = storeJob.spec.lines ∧
       p.scanner.position.getD 0 + 1 = demo.positionLimit ∧ p.scanner.producer + 1 ≠ p.scanner.releaseCopy) := by
  decide +kernel

theorem witness_StoreEntersScanAtALineEvent :
    (storing .waitLock .locked).disp.scanJob = some storeJob ∧ storeJob.spec.kind = .store ∧
    (storing .waitLock .locked).disp.relayJob = none ∧ (storing .waitLock .locked).sender.state ≠ .image ∧
    (storing .waitLock .locked).scanner.state = .waitLock ∧ (storing .waitLock .locked).pins.travelEnd = false ∧
    (storing .waitLock .locked).scanner.position.getD 0 < demo.positionLimit ∧
    (storing .waitLock .locked).settings = demo ∧
    ((storing .waitLock .locked).scanner.producer + 1) % demo.scanSize ≠
      (storing .waitLock .locked).scanner.releaseCopy := by decide +kernel

/-- OPEN with a LIVE that has sent `fresh` lines, its sender and scanner changed. -/
def liveOf (sender : SenderState) (scanner : ScannerState) (fresh : Nat) (f : Sender → Sender)
    (g : Scanner → Scanner) : Part :=
  let p := storing scanner .locked
  { p with disp := { p.disp with scanJob := some { liveJob with tally := { Tally.zero with linesFresh := fresh } } },
           sender := f { p.sender with state := sender }, scanner := g p.scanner }

def scanHand : LineInHand := { handLine with ring := .scan }

/-- A LIVE in IMAGE in STOP's, take's, repeat's and the white line's case, and at the stall limit with the call open.
-/
def liveImages : List Part :=
  [liveOf .image .back 5 (fun d => { d with hand := some scanHand }) id,
   liveOf .image .back 3 (fun d => { d with hand := some scanHand }) fun c => { c with producer := 1, scanDone := true },
   liveOf .image .back 4 (fun d => { d with hand := some scanHand }) fun c => { c with producer := 2 },
   liveOf .image .back 3 (fun d => { d with hand := some scanHand }) fun c => { c with producer := 1 },
   liveOf .image .waitLock 0 (fun d => { d with callMark := true, stall := 3 }) id,
   liveOf .image .waitLock 0 (fun d => { d with callMark := true, stall := 4 }) id,
   liveOf .phasing .back 0 (fun d => { d with events := 4 }) fun c => { c with producer := 1 }]

/-- A LIVE that takes its second line while its scanner commits the fourth of five. -/
def liveTaking : Part :=
  liveOf .image .scan 1 (fun d => { d with hand := some scanHand }) fun c =>
    { c with senderIndex := 1, producer := 3, line := 3, position := some 995,
             openLine := some { freshLine 3 with written := 132 } }

theorem witness_StoreEntersScan_for_a_LIVE :
    (∀ p ∈ liveImages ++ [liveTaking], p.disp.relayJob = none ∧ p.sender.onTimer = false ∧
      (p.disp.scanJob.map fun j => j.spec.kind) = some .live ∧ p.scanner.armed = false) ∧
    liveJob.spec.startRevs = 3 ∧ liveJob.spec.phasingRevs = 2 ∧ liveJob.spec.lines = 5 ∧
    liveJob.firstCause = none ∧ liveJob.senderSide = ⟨true, false⟩ ∧
    (∀ armed : Bool, let p := liveOf .standby .waitLock 0 id fun c => { c with armed := armed }
      p.scanner.state ≠ .scan ∧ p.sender.state = .standby ∧ p.scanner.armed = armed ∧ 2 < 3 + 2) ∧
    (∀ state ∈ [SenderState.start, .phasing],
      let p := liveOf state .waitLock 0 (fun d => { d with events := 3, callMark := true }) fun c =>
        { c with armed := true, position := some 999, senderIndex := 2, releaseCopy := 2 }
      3 + 2 ≤ p.sender.events + 1 + 2 ∧ p.sender.events + 1 + 1 = 3 + 2 ∧ p.pins.travelEnd = false ∧
        p.scanner.position.getD 0 + 1 = demo.positionLimit ∧
        (p.scanner.producer + 1) % demo.scanSize ≠ p.scanner.senderIndex) ∧
    ((liveImages.map fun p => ((released p).scanner.senderIndex, p.scanner.producer, p.scanner.scanDone)) =
      [(1, 0, false), (1, 1, true), (1, 2, false), (1, 1, false), (0, 0, false), (0, 0, false), (0, 1, false)]) ∧
    (min 63 (3 + 1) < demo.stallLimit ∧ demo.stallLimit = min 63 (4 + 1)) ∧
    (let p := liveTaking
     p.scanner.line + 1 + 1 = 5 ∧ (p.scanner.position.map (· + demo.stepsPerLine)).getD 0 + 1 = demo.positionLimit ∧
       (released p).scanner.senderIndex = 2 ∧ (p.scanner.producer + 1) % demo.scanSize = 0 ∧
       (0 + 1) % demo.scanSize ≠ 2 ∧ 132 = 4 + demo.image) := by decide +kernel

/-- A line with every byte written, and one with a byte to go. -/
theorem witness_LineCloseCommitsOrDamages :
    (∀ n ∈ [132, 131], (scanning n).disp.scanJob = some storeJob ∧
      (scanning n).scanner.openLine = some { freshLine 0 with written := n, noise := 3 }) ∧
    (freshLine 0).damaged = false ∧ 132 = 4 + (scanning 132).settings.image ∧
    min 63 ((scanning 131).scanner.stall + 1) < (scanning 131).settings.stallLimit := by decide +kernel

/-- The line of `scanning n`, damaged or not, at a stall count and with a first cause or none. -/
def closing (n : Nat) (damaged : Bool) (stall : Nat) (cause : Option Cause) : Part :=
  let p := scanning n
  { p with disp := { p.disp with scanJob := some { storeJob with firstCause := cause } },
           scanner := { p.scanner with stall := stall, openLine := p.scanner.openLine.map fun l =>
             { l with damaged := damaged } } }

/-- A whole revolution with a byte to go, a damaged one with none, and a cut one; the stall count one short of the
limit and at it, before and after a first cause. -/
theorem witness_LineCloseCommitsOrDamages_otherwise :
    (∀ c ∈ [(131, false), (132, true), (132, false)], ∀ stall ∈ [3, 4], ∀ cause ∈ [none, some Cause.lampFault],
      let p := closing c.1 c.2 stall cause
      p.disp.scanJob = some { storeJob with firstCause := cause } ∧ p.pins.home = false ∧
        p.scanner.openLine = some { freshLine 0 with written := c.1, noise := 3, damaged := c.2 }) ∧
    131 ≠ 4 + demo.image ∧ min 63 (3 + 1) + 1 = demo.stallLimit ∧ demo.stallLimit = min 63 (4 + 1) ∧
    storeJob.scannerSide = ⟨true, false⟩ ∧ storeJob.senderSide.active = false := by decide +kernel

/-- A whole revolution with a byte to go at the stall limit: SCAN_STALL, and RETURN (R96, R98, R103). -/
theorem test_late_line_at_the_stall_limit :
    let q := closeLine true storeJob (closing 131 false 4 none)
    q.scanner.state = .back ∧ q.scanner.stall = 5 ∧ q.path.guards.scanFill = none ∧
      (q.disp.scanJob.map fun j => (j.firstCause, j.tally.damaged)) = some (some .scanStall, 1) := by decide +kernel

/-- OPEN with the drum's schedule at slot `k` and a sender in START on the drum, and one on the line timer. -/
def atSlot (k : Nat) : Part :=
  let p := relaying .start
  { p with angle := ⟨some 31250, 0, k, k⟩, timer := ⟨some .relay, 31250, 0, true, k⟩ }

def atSlotOnDrum (k : Nat) : Part :=
  { atSlot k with sender := { (atSlot k).sender with onTimer := false } }

/-- The first and the last slot, on each clock; in IMAGE the strip and the gap at their ends. -/
theorem witness_SlotStartSetsTheIncrement :
    (∀ p ∈ [atSlot 0, atSlot 151, atSlotOnDrum 0, atSlotOnDrum 151],
      p.settled = true ∧ p.angle.schedule = some 31250 ∧ p.angle.nextStart < p.derived.slots ∧
      p.timer.running = some .relay ∧ p.timer.begun = true ∧ p.timer.nextStart < p.derived.slots ∧
      p.sender.state ≠ .image) ∧
    (atSlot 0).sender.onTimer = true ∧ (atSlotOnDrum 0).sender.onTimer = false ∧
    15 < demo.strip ∧ demo.strip + demo.image ≤ 144 := by decide +kernel

/-- The slot whose pixel is at the head, one behind two earlier pixels, and one whose pixel is not there. -/
theorem witness_ImageSlotSendsItsPixelOrUnderruns :
    imaging.sender.hand = some handLine ∧ handLine.kind ≠ .white ∧ imaging.sender.state = .image ∧
    5 < imaging.settings.image ∧ imaging.disp.relayJob = some relayJob ∧
    handLine.nextRead - 4 - imaging.sender.fifo.length = 5 ∧
    imaging.sender.fifo = [] ++ 1 :: [162, 3] ∧ 5 + ([] : List Byte).length = 5 ∧
    imaging.sender.fifo = [1, 162] ++ 3 :: [] ∧ 5 + [1#8, 162#8].length = 7 ∧
    4 < 5 ∧ 5 + imaging.sender.fifo.length ≤ 8 := by decide +kernel

/-- A RELAY in IMAGE that sends a white line, at slot `k` of either clock. -/
def whiteLine (onTimer : Bool) (k : Nat) : Part :=
  let p := atSlot k
  { p with sender := { p.sender with state := .image, onTimer := onTimer,
                                     hand := some { handLine with kind := .white, nextRead := 0 } } }

theorem witness_SlotStarts_of_a_white_line :
    ∀ onTimer : Bool, ∀ k ∈ [16, 143],
      let p := whiteLine onTimer k
      p.settled = true ∧ p.sender.state = .image ∧ p.sender.onTimer = onTimer ∧ p.angle.schedule = some 31250 ∧
        p.angle.nextStart = k ∧ k < p.derived.slots ∧ p.timer.nextStart = k ∧ demo.strip ≤ k ∧
        k - demo.strip < demo.image ∧ p.sender.hand.map LineInHand.kind = some .white := by decide +kernel

/-- A line at slot centre `k`, and one with a conversion set of slot `k`. -/
def centred (k : Nat) : Part := { scanning 4 with angle := ⟨some 31250, 0, k, k⟩ }

def converting (k : Nat) (values : List Nat) : Part :=
  { scanning 4 with scanner := { (scanning 4).scanner with convSet := some ⟨k, values⟩ } }

theorem witness_ConversionsFormAPixel :
    (∀ k ∈ [0, 143, 151], (centred k).settled = true ∧ (centred k).angle.schedule = some 31250 ∧
      (centred k).angle.nextCentre < (centred k).derived.slots ∧
      (centred k).scanner.openLine = some { freshLine 0 with written := 4, noise := 3 } ∧
      (centred k).scanner.convSet = none) ∧
    (converting 16 [600, 604, 598]).scanner.convSet = some ⟨16, [600, 604, 598]⟩ ∧
    ([600, 604] ++ [(598#10).toNat]).length < demo.conversions ∧
    demo.conversions ≤ ([600, 604, 598] ++ [(606#10).toNat]).length ∧
    (converting 16 [600, 604, 598]).settled = true ∧ (converting 142 [600, 604, 598]).settled = true ∧
    demo.strip ≤ 16 ∧ 142 + 1 < demo.strip + demo.image ∧
    (converting 16 [600, 604, 598]).scanner.fifo.length < 64 := by decide +kernel

/-- A set of slot `k` with some conversions done, at the centre of slot `centre`. -/
def cutting (k centre : Nat) (values : List Nat) : Part :=
  { converting k values with angle := ⟨some 31250, 0, centre, centre⟩ }

theorem witness_ConversionsFormAPixel_of_a_cut_set :
    (∀ c ∈ [(14, 15), (15, 16), (16, 17), (143, 144)], ∀ values ∈ [[], [600, 604, 598]],
      let p := cutting c.1 c.2 values
      p.settled = true ∧ p.angle.schedule = some 31250 ∧ p.angle.nextCentre = c.2 ∧ c.2 < p.derived.slots ∧
        p.scanner.convSet = some ⟨c.1, values⟩ ∧
        p.scanner.openLine = some { freshLine 0 with written := 4, noise := 3 }) ∧
    demo.conversions = 3 + 1 := by decide +kernel

/-- A set cut at the next centre ends with the three conversions it has (Table 7.1-1's second row: 601, pixel 161),
and one cut before its first ends noisy, at the pixel before (R92, R94, R106, R108); the next set starts. -/
theorem test_cut_set_gives_its_pixel :
    let p := after .slotCentre (cutting 16 17 [600, 604, 598])
    let q := after .slotCentre (cutting 16 17 [])
    (p.scanner.openLine.bind fun l => l.previous) = some 161 ∧ p.scanner.convSet = some ⟨17, []⟩ ∧
      (q.scanner.openLine.bind fun l => l.previous) = some 255 ∧
      (q.scanner.openLine.map fun l => l.noise) = some 4 ∧
      (after .slotCentre (cutting 143 144 [600])).scanner.convSet = none := by decide +kernel

/-- A scan FIFO of `n` bytes at the last conversion of slot `k`. -/
def fifoOf (n k : Nat) : Part :=
  let p := converting k [600, 604, 598]
  { p with scanner := { p.scanner with fifo := List.replicate n 7 } }

/-- The last strip slot with a white sum for the mean `white`, a black mean of 120, and a run of strip faults. -/
def stripEnd (white run : Nat) : Part :=
  let p := converting 15 [880, 880, 880]
  { p with scanner := { p.scanner with
      stripRun := run,
      openLine := some { freshLine 0 with written := 4, noise := 3, whiteSum := 2 * white, whiteCount := 2,
                                          blackSum := 240, blackCount := 2 } } }

/-- The header that just fits, the one that does not, and the full FIFO; the last strip slot but one; the least
contrast, and one less with a run of faults below its limit and at it. -/
theorem witness_ConversionsFormAPixel_at_the_ends :
    ((fifoOf 59 143).settled = true ∧ 143 + 1 = demo.strip + demo.image ∧
      (fifoOf 59 143).scanner.fifo.length + 5 = 64) ∧
    ((fifoOf 60 143).settled = true ∧ (fifoOf 60 143).scanner.fifo.length = 60) ∧
    ((fifoOf 64 16).settled = true ∧ (fifoOf 64 16).scanner.fifo.length = 64) ∧
    ((converting 14 [880, 880, 880]).settled = true ∧ 14 + 1 < demo.strip) ∧
    (∀ c ∈ [(220, 0), (219, 1), (219, 2)],
      (stripEnd c.1 c.2).settled = true ∧ (stripEnd c.1 c.2).disp.scanJob = some storeJob ∧
      (stripEnd c.1 c.2).scanner.openLine.isSome = true) ∧
    15 + 1 = demo.strip ∧ storeJob.firstCause = none ∧
    (demo.strip / 2 - 4 ≤ 2 * 2 ∧ (240 + 2 / 2) / 2 + demo.minContrast = (440 + 2 / 2) / 2 ∧
      (438 + 2 / 2) / 2 < (240 + 2 / 2) / 2 + demo.minContrast) ∧
    min 15 (1 + 1) < demo.stripFaultLimit ∧ demo.stripFaultLimit = min 15 (2 + 1) := by decide +kernel

/-- A RELAY in CALLING, STANDBY and START, on the line timer; the last before its third event too. -/
theorem witness_LineTimerExpiryIsALineEvent :
    (∀ state ∈ [SenderState.calling, .standby, .start],
      (relaying state).settled = true ∧ (relaying state).timer.running = some .relay ∧
      (relaying state).sender.onTimer = true ∧ (relaying state).disp.relayJob = some relayJob ∧
      (relaying state).sender.state = state) ∧
    relayJob.spec.kind = .relay ∧ (relaying .start).sender.events + 1 < relayJob.spec.startRevs ∧
    relayJob.spec.startRevs ≤ 2 + 1 := by decide +kernel

/-- A RELAY that has sent `fresh` lines, with a line in hand, its sender changed by `f`. -/
def sending (state : SenderState) (hand : Option LineInHand) (fresh : Nat) (f : Sender → Sender) : Part :=
  let p := relaying state
  { p with sender := f { p.sender with hand := hand },
           disp := { p.disp with relayJob := some { relayJob with tally := { Tally.zero with linesFresh := fresh } } } }

/-- PHASING before its end and at it; IMAGE at its last line, on a line marked LAST, with a line to take, and with
none below the stall limit and at it; STOP before its end and at it. -/
theorem witness_LineTimerExpiry_in_IMAGE_and_STOP :
    (∀ p ∈ [sending .phasing none 0 fun d => { d with events := 3 },
        sending .phasing none 0 fun d => { d with events := 4 },
        sending .image (some handLine) 5 id, sending .image (some { handLine with last := true }) 1 id,
        sending .image (some handLine) 4 fun d => { d with feedProducer := 2 },
        sending .image (some handLine) 1 fun d => { d with feedProducer := 1, stall := 3 },
        sending .image (some { handLine with kind := .white }) 0 fun d => { d with stall := 3 },
        sending .image (some handLine) 1 fun d => { d with feedProducer := 1, stall := 4 },
        sending .stop none 5 id, sending .stop none 5 fun d => { d with stopCount := 1 }],
      p.settled = true ∧ p.timer.running = some .relay ∧ p.sender.onTimer = true ∧
      p.servo.demands.live = none) ∧
    (3 + 1 < 3 + 2 ∧ 3 + 2 ≤ 4 + 1) ∧ relayJob.spec.lines = 5 ∧
    relayJob.spec.startRevs + relayJob.spec.phasingRevs = 5 ∧
    (let e := (released (sending .image (some handLine) 4 fun d => { d with feedProducer := 2 })).sender
     e.feedConsumer ≠ e.feedProducer) ∧
    (let e := (released (sending .image (some handLine) 1 fun d => { d with feedProducer := 1 })).sender
     e.feedConsumer = e.feedProducer) ∧
    (min 63 (3 + 1) < demo.stallLimit ∧ demo.stallLimit ≤ min 63 (4 + 1)) ∧
    (min 15 (0 + 1) < demo.stopRevs ∧ demo.stopRevs ≤ min 15 (1 + 1)) ∧
    relayJob.firstCause = none ∧ relayJob.spec.waitReceipt = false ∧ relayJob.spec.holdSpin = false ∧
    relayJob.scannerSide.active = false ∧ relayJob.senderSide = ⟨true, false⟩ := by decide +kernel

/-- One step owed, and a homing in HOMING and in RETURN. -/
theorem witness_StepPulsesMoveTheCarriage :
    0 < ({ (scanning 4).scanner with stepsOwed := 1 } : Scanner).stepsOwed ∧
      (homingAt .homing).scanner.homing = true ∧ (homingAt .back).scanner.homing = true := by decide +kernel

theorem witness_ToneSampleDrivesTxa :
    (∀ state ∈ [SenderState.start, .phasing, .image, .stop, .idle, .calling, .standby, .awaitReceipt],
      (relaying state).resetActive = false ∧ (relaying state).senderJob = some relayJob ∧
      (relaying state).sender.state = state) ∧
    (0 < 65536 ∧ 0 ≤ 16) ∧ 65535 < 65536 ∧ 16 ≤ 16 := by decide +kernel

/-- A detector with a previous capture at 100 and a run of the ready tone. -/
def tracking (count : Nat) : Part :=
  { openPart with detector := ⟨.tracking, some 100, 0, some .ready, count, 0⟩ }

/-- The ends of the ready band, a cycle out of band, and the longest cycle before silence; a run one short of the
persistence and one before it. -/
theorem witness_DetectorTracksCycles :
    (openPart.settled = true ∧ openPart.resetActive = false ∧ openPart.placed = true ∧
      openPart.detector.previous = none) ∧
    (∀ n ∈ [6, 7], (tracking n).settled = true ∧ (tracking n).detector.previous = some 100 ∧
      (tracking n).detector.state = .tracking ∧ (tracking n).senderSlot = none) ∧
    (∀ n ∈ [692, 721, 8100], BitVec.ofNat 16 n ≠ 100 ∧ (BitVec.ofNat 16 n - 100).toNat ≤ 8000) ∧
    openPart.bandOf (692#16 - 100).toNat = some .ready ∧ openPart.bandOf (721#16 - 100).toNat = some .ready ∧
    openPart.bandOf (8100#16 - 100).toNat = none ∧ 6 + 1 < demo.persistence ∧ demo.persistence ≤ 7 + 1 := by
  decide +kernel

/-- Each tone heard, and each one run short of the persistence, at a RELAY in each state of its sender. -/
theorem witness_DetectorTracksCycles_at_a_RELAY :
    (∀ c ∈ [(Tone.ready, 706#16), (.halt, 1009#16), (.receipt, 517#16)],
      openPart.bandOf (c.2 - 100).toNat = some c.1 ∧ c.2 ≠ 100 ∧ (c.2 - 100).toNat ≤ 8000 ∧
      (∀ d ∈ [(⟨.heard c.1, some 100, 0, none, 0, 3⟩ : Detector), ⟨.tracking, some 100, 0, some c.1, 7, 0⟩],
        ({ openPart with detector := d }).settled = true ∧ d.previous = some 100)) ∧
    ∀ state ∈ [SenderState.idle, .calling, .standby, .start, .phasing, .image, .stop, .awaitReceipt],
      (relaying state).settled = true ∧ (relaying state).resetActive = false ∧ (relaying state).placed = true ∧
      relaySends (relaying state) relayJob := by decide +kernel

/-- HALT in IMAGE cuts the line in hand, with a byte of it on the port (R132, R134). -/
theorem test_halt_releases_the_line :
    let p := porting .lineSender { imaging with detector := ⟨.tracking, some 100, 0, some .halt, 7, 0⟩ }
    let q := after (.rxcCapture 1009) p
    relaySends p relayJob ∧ q.sender.state = .stop ∧ q.sender.hand = none ∧ q.sender.feedConsumer = 1 ∧
      q.path.port = .part ⟨.lineSender, 0x1234, 0x5A, true⟩ := by decide +kernel

/-- The image of the demo settings up to byte 151, and its checksum. -/
def w16 (n : Nat) : List Byte := [lowByte n, highByte n]
def b8 (n : Nat) : List Byte := [lowByte n]

/-- The bytes 0 to 150 of the configuration image of `demo` (Table 2.3-1). -/
def demoBody : List Byte :=
  [0x48, 0x43, 0x01, 0x97] ++ w16 0x7FE0 ++ w16 0x7F00 ++ w16 0 ++ b8 0 ++ w16 0x100 ++ b8 0 ++ w16 0x1000 ++ b8 0 ++
  w16 0x3000 ++ b8 0 ++ b8 16 ++ w16 128 ++ b8 8 ++ b8 4 ++ w16 24 ++ w16 100 ++ b8 3 ++ w16 880 ++ w16 120 ++
  ([demoCurve, demoCurve, demoCurve, demoCurve].flatten.flatMap b8) ++ w16 1300 ++ w16 2100 ++ b8 12 ++ b8 3 ++ b8 2 ++
  b8 2 ++ b8 8 ++ w16 1650 ++ b8 40 ++ w16 1100 ++ b8 40 ++ w16 2400 ++ b8 60 ++ b8 8 ++ b8 2 ++ b8 2 ++ b8 64 ++
  b8 16 ++ w16 400 ++ w16 450 ++ w16 500 ++ w16 800 ++ w16 100 ++ w16 200 ++ w16 400 ++ b8 10 ++ b8 2 ++ b8 4 ++
  b8 1 ++ b8 5 ++ w16 1000 ++ b8 3 ++ b8 5 ++ b8 1 ++ b8 200 ++ b8 0xFF

def demoSum : Nat := (demoBody.map BitVec.toNat).sum

/-- LOADING with the whole image but its last byte read. -/
def lastByteDue : Part :=
  let p := loadingPart (demoBody ++ [lowByte demoSum])
  { p with loader := { p.loader with sum := BitVec.ofNat 16 demoSum } }

/-- The fields of the image are where Table 2.3-1 puts them, and pass both checks (R21, R22). -/
theorem test_demo_image : demoBody.length = 151 ∧ parseSettings demoBody = demo ∧ demo.rangesGood = true := by
  decide +kernel

/-- The first byte, one in the middle, and the last one, right and wrong. -/
theorem witness_ImageBytesDecideTheStart :
    (∀ p ∈ [loadingPart [], loadingPart [0x48, 0x43, 0x01, 0x97], lastByteDue],
      p.settled = true ∧ p.loader.device = .loading ∧ p.loader.reading = true) ∧
    lastByteDue.loader.image.length + 1 = 153 ∧
    (let image := lastByteDue.loader.image ++ [highByte demoSum]
     lastByteDue.loader.sum = BitVec.ofNat 16 ((image.getD 151 0).toNat + 256 * (image.getD 152 0).toNat) ∧
       (parseSettings image).rangesGood = true ∧ (parseSettings image).relationsGood = true) ∧
    (let image := lastByteDue.loader.image ++ [highByte demoSum + 1]
     lastByteDue.loader.sum ≠ BitVec.ofNat 16 ((image.getD 151 0).toNat + 256 * (image.getD 152 0).toNat)) := by
  decide +kernel

/-- R24: the first block write after acceptance shows sequence 1, START, device state 2, the default references and an
unknown position, with every other field at its value after RESET. -/
theorem test_first_status_image :
    let p := after .statusWriteStart (after (.imageByteReceived (highByte demoSum)) lastByteDue)
    ((List.range 32).map (statusByte p) : List Byte) =
      [1, 0x80, 0, 0, 0, 0, 0, 0x20, 0, 0, 0, 0, 0x70, 0x03, 0x78, 0x00, 0, 0, 0, 0, 0xFF, 0xFF, 0, 0, 0, 0, 0, 0, 0, 0,
        0, 1] := by decide +kernel

theorem witness_ResetAndRelease :
    (scanning 4).path.waiting = none ∧ (behind 0 (scanning 4)).path.waiting = some ⟨.read 0, 0⟩ ∧
    ({ openPart.path with waiting := some ⟨.write 0x7FFF 5, 1⟩ } : MemoryPath).waiting = some ⟨.write 0x7FFF 5, 1⟩ ∧
    opened.ram.wf = true ∧ State.reset.part.resetActive = true := by decide +kernel

/-! ## One command each, against the worked tables -/

/-- OPEN with the demo settings changed by `f`. -/
def openWith (f : Settings → Settings) : Part :=
  { openPart with loader := { openPart.loader with accepted := some ⟨f demo, (f demo).derive⟩ } }

/-- Table 3.5-1: a slip ring of 8 with producer 2 and consumer 6. -/
def slipRing8 : Part :=
  let p := openWith fun c => { c with slipCode := 1 }
  { p with disp := { p.disp with slipConsumer := 6 }, slips := { p.slips with producer := 2 } }

def consumed (b : Byte) : Nat × Nat :=
  let d := (after (.slipConsumerIndexWrite b) slipRing8).disp
  (d.slipConsumer, d.rejections)

theorem test_slipConsumer_rows :
    [0x06#8, 0x00, 0x02, 0x04, 0x0A].map consumed = [(6, 0), (0, 0), (2, 0), (6, 1), (2, 0)] := by decide +kernel

/-- Table 4.1-1, on a drum in SPINDOWN. -/
def periodAfter (last : Tick) (wraps : Nat) (tick : Tick) : Nat :=
  let p := spinning .spindown
  let p := { p with servo := { p.servo with reference := some last, wraps := wraps } }
  (after (.indexCapture tick sensed false) p).servo.period

theorem test_period_rows :
    periodAfter 60000 1 57000 = 62536 ∧ periodAfter 10000 0 41250 = 31250 ∧ periodAfter 50000 1 25667 = 41203 ∧
    periodAfter 65535 1 62499 = 62500 ∧ periodAfter 65535 2 62499 = 128036 := by decide +kernel

/-- Table 4.5-1, the second period start. -/
theorem test_pwm_takes_the_next_duty :
    (after .pwmPeriodStart { openPart with servo := { openPart.servo with nextDuty := 648, activeDuty := 520 } }
      ).servo.activeDuty = 648 := by decide +kernel

/-- At active duty 1024 MDRV stays high across a period start (R62). -/
theorem test_full_duty_keeps_mdrv_high :
    let p := spinning .locked
    let p := { p with clock := { p.clock with pwmCount := 1023 },
                      servo := { p.servo with activeDuty := 1024, nextDuty := 1024 } }
    (passBeat p).clock.pwmCount = 0 ∧ p.mdrv = true ∧ (passBeat p).mdrv = true := by decide +kernel

/-- The link at the start of the read (R18): CFCK falls to low and rises each microsecond, and the seventh bit of 03H
is the first one that is 1. -/
def linkAfter (n : Nat) : Bool × Bool × Bool :=
  let q := (List.range n).foldl (fun p _ => passBeat p) (startRead { Part.reset with resetActive := false })
  (q.loader.reading, q.loader.cfck, q.cfdo)

theorem test_link_sends_the_instruction :
    [0, 1, 11, 12, 13, 14, 15, 16].map linkAfter =
      [(true, false, false), (true, true, false), (true, true, false), (true, false, true), (true, true, true),
       (true, false, true), (true, true, true), (true, false, false)] := by decide +kernel

/-- A homing that begins with HOME active in RETURN starts its timeout (R83, R86). -/
theorem test_return_starts_the_home_timeout :
    let p := storing .scan .locked
    (enterReturn { p with pins := { p.pins with home := true },
                          scanner := { p.scanner with position := some 40, homeCount := 9 } }).scanner.homeCount = 0 := by
  decide +kernel

/-- A status write that is ready starts before the port's transfer completes (R161). -/
theorem test_status_write_starts_first :
    (porting .slipWriter (dirtyPart true none)).nextDue = some .statusWriteStart := by decide +kernel

/-- A line damaged by a full FIFO drops its strip sums (R109). -/
theorem test_damage_drops_the_sums :
    let p := stripEnd 220 0
    ((overflowLine p).scanner.openLine.map fun l => (l.damaged, l.whiteSum, l.whiteCount, l.blackSum, l.blackCount)) =
      some (true, 0, 0, 0, 0) := by decide +kernel

/-- Table 1.5-2: status byte 5 on the port, the scan FIFO at 50, the sender FIFO at 40, a fetch outstanding, a host
read waiting. -/
def busy (granted : Nat) (port : Port) (scanFifo : Nat) (waits : Bool) : Part :=
  let p := scanning 4
  { p with
    status := { p.status with write := some 6 },
    disp := { p.disp with relayJob := some relayJob, fetch := some ⟨0, []⟩ },
    scanner := { p.scanner with fifo := List.replicate scanFifo 7 },
    sender := { p.sender with state := .image, onTimer := true, hand := some { handLine with nextRead := 60 },
                              fifo := List.replicate 40 7 },
    path := { p.path with port := port, waiting := if waits then some ⟨.read 0x1234, granted⟩ else none,
                          wait := waits } }

def grantedTo (p : Part) : Option Requester :=
  match (after .transferComplete p).path.port with
  | .part t => some t.who
  | .idle | .host => none

theorem test_arbiter_first_rows :
    grantedTo { busy 0 (.part ⟨.statusWriter, 0x7FE5, 0, false⟩) 50 true with
      status := { openPart.status with write := some 5 } } = some .scanner ∧
    (after .transferComplete (busy 1 (.part ⟨.scanner, 0x1004, 7, false⟩) 49 true)).path.port = .host := by
  decide +kernel
theorem test_arbiter_last_rows :
    grantedTo (busy 0 .host 49 false) = some .lineSender ∧
    (after .transferComplete (busy 0 .host 49 false)).path.wait = false ∧
    (after .transferComplete (behind 0 (requesting .slipWriter 20))).path.port = .host := by decide +kernel

/-- Table 11.4-2, the mask on SLIP and JOBTAKEN: both reads of byte 1. -/
def seen (pending fresh last : Byte) : Byte × Bool :=
  let p := openWith fun c => { c with attentionMask := 0x03 }
  let t := (after .readStatusByte1 { p with
    status := { p.status with pending := pending, fresh := fresh, lastByte1 := last, attn := true } }).status
  (t.pending, t.attn)

theorem test_readStatusByte1_clears_the_seen :
    seen 0x03 0x01 0x02 = (0x01, true) ∧ seen 0x01 0x00 0x01 = (0x00, false) := by decide +kernel

/-- Table 9.3-1: the run reaches 8, the noise edge, and the missed edge in HEARD. -/
def cycleAfter (d : Detector) (cycle : Nat) : DetectorState × Option Tone × Nat × Nat :=
  let e := (after (.rxcCapture (100 + BitVec.ofNat 16 cycle)) { openPart with detector := d }).detector
  (e.state, e.runTone, e.runCount, e.loss)

theorem test_detector_one_ready :
    cycleAfter ⟨.tracking, some 100, 0, some .ready, 7, 0⟩ 606 = (.heard .ready, some .ready, 8, 0) ∧
    cycleAfter ⟨.tracking, some 100, 0, some .ready, 3, 0⟩ 250 = (.tracking, none, 0, 0) ∧
    cycleAfter ⟨.heard .ready, some 100, 0, some .ready, 28, 0⟩ 1212 = (.heard .ready, none, 0, 1) := by
  decide +kernel
/-- Table 9.3-2: the third, fourth and eighth HALT cycle. -/
theorem test_detector_halt_takes_over :
    cycleAfter ⟨.heard .receipt, some 100, 0, some .halt, 2, 2⟩ 909 = (.heard .receipt, some .halt, 3, 3) ∧
    (let r := cycleAfter ⟨.heard .receipt, some 100, 0, some .halt, 3, 3⟩ 909
     r.1 = .tracking ∧ r.2.2.1 = 4) ∧
    (let r := cycleAfter ⟨.tracking, some 100, 0, some .halt, 7, 0⟩ 909
     r.1 = .heard .halt ∧ r.2.2 = (8, 0)) := by decide +kernel

/-- Table 8.5-1: the four slot starts, each on the FIFO the row finds. -/
def slotOf (k : Nat) (fifo : List Byte) (nextRead : Nat) : Nat × Nat × List Byte :=
  let p := { imaging with sender := { imaging.sender with
    hand := some { handLine with nextRead := nextRead, nextSlot := k }, fifo := fifo } }
  let p := { p with timer := ⟨some .relay, 31250, 0, true, 16 + k⟩ }
  let q := after .lineTimerSlotStart p
  (q.sender.held, (q.disp.relayJob.map fun j => j.tally.underruns).getD 9, q.sender.fifo)

theorem test_underrun_rows :
    slotOf 10 [162] 15 = (153, 0, []) ∧ slotOf 11 [] 15 = (153, 1, []) ∧ slotOf 12 [9] 16 = (153, 1, []) ∧
    slotOf 13 [9, 162] 18 = (153, 0, []) := by decide +kernel

/-- The STORE of section 12.3: its defaults come from the settings, and its flags byte 18H is kept whole. -/
theorem test_store_record :
    takenRecord demo [0x17, 0x0A, 2, 1, 0x2C, 0x01, 0, 0, 0, 0x18, 0, 9, 9, 9, 9, 9] false =
      ⟨⟨0x0A17, .store, 1, 300, 0, 3, 2, 12, false, false, false, true, true⟩, none, false, false⟩ := by decide +kernel

/-- Table 10.4-1: the slip of that record, whose lines requested lie out of range. -/
def badRecord : PendingJob :=
  takenRecord demo [0x17, 0x0A, 3, 1, 0x88, 0x13, 9, 0, 0, 0, 0, 0, 0, 0, 0, 0] false

theorem test_badJob_slip :
    badRecord.badField = some 4 ∧
    badRecord.slip.bytes 1 =
      [1, 0x32, 0x02, 0x31, 0x17, 0x0A, 0x88, 0x13] ++ List.replicate 36 0 ++ [5, 4, 0, 0] := by decide +kernel

/-- Table 10.4-2, and the bytes of it that section 12.5 writes out. -/
def haltedSlip : Slip :=
  ⟨{ specOf .live with lines := 400 }, .halted,
    { Tally.zero with linesFresh := 213, linesRepeated := 2, lineEvents := 223, noiseHeld := 37, damaged := 1,
                      skipped := 2, stripFaults := 3, excursions := 1, worstError := 540, white := 879, black := 121,
                      tones := ⟨false, true, false⟩, phasingSent := 2, detail := some ⟨4, 5, 212⟩,
                      events := [⟨.abortLate, 212⟩, ⟨.haltLate, 212⟩] }⟩

theorem test_halted_slip :
    let b := haltedSlip.bytes 37
    b.take 4 = [0x25, 0x11, 0x02, 0x12] ∧ b.getD 28 0 = 0x02 ∧
      b.drop 30 = [2, 0, 0x45, 0xD4, 0x00, 0x42, 0xD4, 0x00, 0, 0, 0, 0, 0, 0, 0x04, 0x05, 0xD4, 0x00] := by
  decide +kernel

/-- Table 3.4-1: a LIVE in IMAGE at sender line 212 hears HALT; then ABORT_SEND comes late. -/
def liveHalted : Part :=
  let p := scanning 4
  { p with
    disp := { p.disp with scanJob := some liveJob },
    servo := { p.servo with demands := ⟨some ⟨2, false⟩, some ⟨2, false⟩, none, none⟩ },
    scanner := { p.scanner with line := 214 },
    sender := { p.sender with state := .image, line := 212 },
    detector := ⟨.tracking, some 100, 0, some .halt, 7, 0⟩ }

def jobNow (p : Part) : Option (Option Cause × Option Detail × List JobEvent) :=
  p.disp.scanJob.map fun j => (j.firstCause, j.tally.detail, j.tally.events)

theorem test_halt_is_the_first_cause :
    let p := after (.rxcCapture 1009) liveHalted
    jobNow p = some (some .halted, some ⟨4, 5, 212⟩, []) ∧ p.sender.state = .stop ∧
      jobNow (after .abortSend p) = some (some .halted, some ⟨4, 5, 212⟩, [⟨.abortLate, 212⟩]) := by decide +kernel

/-- Table 6.3-1, E3 and the write that follows: no free slot, and then the release of two lines. -/
def fullRing : Part :=
  let p := scanning 132
  { p with scanner := { p.scanner with producer := 2, line := 2,
                                       openLine := some { freshLine 2 with written := 132 } } }

theorem test_claim_refused_and_release :
    let p := drumLineEvent true true fullRing
    p.scanner.producer = 3 ∧ p.scanner.stall = 1 ∧ p.scanner.openLine = none ∧
      (after (.scanReleaseIndexWrite 0x02) p).scanner.releaseCopy = 2 := by decide +kernel

/-- Table 4.6-1: the stall sets the job's demands aside, withdraws the hold and gives DRUM_STALL. -/
def stallLive : Part :=
  stalled { liveHalted with servo := { liveHalted.servo with
    demands := ⟨some ⟨2, false⟩, some ⟨2, false⟩, none, some ⟨1, false⟩⟩ } }

theorem test_stall_row :
    let p := after .stallTimeExpiry stallLive
    p.servo.drum = .stopped ∧ p.servo.demands = ⟨some ⟨2, true⟩, some ⟨2, true⟩, none, none⟩ ∧ p.servo.duty = 0 ∧
      p.sender.state = .stop ∧ p.sender.onTimer = true ∧ p.scanner.state = .back ∧
      (p.disp.scanJob.bind fun j => j.firstCause) = some .drumStall := by decide +kernel

/-- Table 3.4-2, its first row: both jobs take ABORTED, the pending LIVE is marked, the count is 2. -/
theorem test_abortAll_row :
    let d := (after .abortAll (waitingGate false false)).disp
    d.cancelCount = 2 ∧ (d.pendingJob.map fun r => r.toCancel) = some true ∧
      (d.relayJob.bind fun j => j.firstCause) = some .aborted ∧
      (d.scanJob.bind fun j => j.firstCause) = some .aborted := by decide +kernel

end Sys2Proof.Tests
end

section
/-! Pixel arithmetic (ch 07): what the conversions of a slot give (R106), and where the level of a pixel lies on the
tone curve (R111). -/

namespace Sys2Proof.Machine

/-! ## The conversions of a slot (R106) -/

section Slot
variable {xs : List Nat}

/-- The fold for the smallest starts at the first conversion, and the fold for the largest at 0: neither start
moves the extreme. -/
theorem slotSpread_eq_max_sub_min (h : xs ≠ []) : slotSpread xs = xs.max h - xs.min h := by
  have head_mem : xs.headD 0 ∈ xs := by
    cases xs with
    | nil => exact absurd rfl h
    | cons x xs => exact List.mem_cons_self
  have min_le_head : xs.min h ≤ xs.headD 0 := List.min_le_of_mem head_mem
  rw [slotSpread, List.foldl_max_eq_max h, List.foldl_min_eq_min h, Nat.zero_max, Nat.min_eq_right min_le_head]

theorem min_le_slotMean (h : xs ≠ []) : xs.min h ≤ slotMean xs :=
  calc xs.min h ≤ xs.sum / xs.length := List.min_le_sum_div_length_nat h
    _ ≤ slotMean xs := Nat.div_le_div_right (Nat.le_add_right _ _)

/-- Half a divisor added before the division never carries past a whole number that bounds the quotient. -/
theorem slotMean_le_max (h : xs ≠ []) : slotMean xs ≤ xs.max h := by
  have length_pos : 0 < xs.length := List.length_pos_iff.mpr h
  have sum_le : xs.sum ≤ xs.max h * xs.length := List.sum_le_max_mul_length_nat h
  rw [slotMean, ← Nat.lt_succ_iff, Nat.div_lt_iff_lt_mul length_pos, Nat.succ_mul]
  omega

theorem slotSpread_attained (h : xs ≠ []) :
    ∃ least ∈ xs, ∃ most ∈ xs, (∀ x ∈ xs, least ≤ x ∧ x ≤ most) ∧
      slotSpread xs = most - least ∧ least ≤ slotMean xs ∧ slotMean xs ≤ most :=
  ⟨xs.min h, List.min_mem h, xs.max h, List.max_mem h,
    fun _ hx => ⟨List.min_le_of_mem hx, List.le_max_of_mem hx⟩,
    slotSpread_eq_max_sub_min h, min_le_slotMean h, slotMean_le_max h⟩

@[simp] theorem slotNoisy_nil (limit : Nat) : slotNoisy limit [] = true := rfl

theorem slotNoisy_iff_of_ne_nil (limit : Nat) (h : xs ≠ []) :
    slotNoisy limit xs = true ↔ limit < slotSpread xs := by
  simp [slotNoisy, h]

@[simp] theorem slotSpread_singleton (x : Nat) : slotSpread [x] = 0 := by
  simp [slotSpread]

theorem sum_le_of_forall_mem_le {bound : Nat} (h : xs ≠ []) (bounded : ∀ x ∈ xs, x ≤ bound) :
    xs.sum ≤ bound * xs.length :=
  Nat.le_trans (List.sum_le_max_mul_length_nat h) (Nat.mul_le_mul_right _ (bounded _ (List.max_mem h)))

/-- Two different conversions bound a spread that is not 0, from either side. -/
theorem slotSpread_pos_of_ne {x y : Nat} (hx : x ∈ xs) (hy : y ∈ xs) (hne : x ≠ y) : 0 < slotSpread xs := by
  obtain ⟨least, -, most, -, between, spread_eq, -⟩ := slotSpread_attained (List.ne_nil_of_mem hx)
  have x_between := between x hx
  have y_between := between y hy
  omega

end Slot

/-! ## The tone curve (R111) -/

/-- R111's level on the segment from `a` to `b`, `r` sixteenths along it. -/
def segmentLevel (a b r : Int) : Int := a + ((b - a) * r + 8) / 16

/-- With `r` below 16 the rounded part of the rise lies between 0 and the whole rise, whichever way it goes. -/
theorem segmentLevel_between {a b r : Int} (r_nonneg : 0 ≤ r) (r_lt : r < 16) :
    min a b ≤ segmentLevel a b r ∧ segmentLevel a b r ≤ max a b := by
  rw [segmentLevel]
  rcases Int.le_total a b with rising | falling
  · have part_nonneg : 0 ≤ (b - a) * r := Int.mul_nonneg (by omega) r_nonneg
    have part_le : (b - a) * r ≤ (b - a) * 15 := Int.mul_le_mul_of_nonneg_left (by omega) (by omega)
    omega
  · have part_nonpos : (b - a) * r ≤ 0 := Int.mul_nonpos_of_nonpos_of_nonneg (by omega) r_nonneg
    have part_ge : (b - a) * 15 ≤ (b - a) * r := Int.mul_le_mul_of_nonpos_left (by omega) (by omega)
    omega

@[simp] theorem segmentLevel_zero (a b : Int) : segmentLevel a b 0 = a := by
  simp [segmentLevel]

/-- The pixel 255 is one sixteenth short of the last point, and the rounding makes that up on a gentle segment. -/
theorem segmentLevel_fifteen_eq_iff (a b : Int) : segmentLevel a b 15 = b ↔ -7 ≤ b - a ∧ b - a ≤ 8 := by
  rw [segmentLevel]
  omega

/-- `toNat` cuts nothing off: a level lies between two points of the curve, and none of them is negative. -/
theorem curveLevel_eq_segmentLevel (curve : List Nat) (n : Nat) :
    (curveLevel curve n : Int) =
      segmentLevel (curve.getD (n / 16) 0 : Nat) (curve.getD (n / 16 + 1) 0 : Nat) (n % 16 : Nat) := by
  have above_lower := (segmentLevel_between (a := (curve.getD (n / 16) 0 : Nat))
    (b := (curve.getD (n / 16 + 1) 0 : Nat)) (Int.natCast_nonneg (n % 16)) (by omega)).1
  have lower_nonneg := Int.le_min.mpr
    ⟨Int.natCast_nonneg (curve.getD (n / 16) 0), Int.natCast_nonneg (curve.getD (n / 16 + 1) 0)⟩
  exact Int.toNat_of_nonneg (Int.le_trans lower_nonneg above_lower)

theorem curveLevel_between (curve : List Nat) (n : Nat) :
    min (curve.getD (n / 16) 0) (curve.getD (n / 16 + 1) 0) ≤ curveLevel curve n ∧
      curveLevel curve n ≤ max (curve.getD (n / 16) 0) (curve.getD (n / 16 + 1) 0) := by
  have level_eq := curveLevel_eq_segmentLevel curve n
  have between := segmentLevel_between (a := (curve.getD (n / 16) 0 : Nat))
    (b := (curve.getD (n / 16 + 1) 0 : Nat)) (Int.natCast_nonneg (n % 16)) (by omega)
  rw [← level_eq] at between
  omega

theorem curveLevel_at_point {n : Nat} (curve : List Nat) (at_point : n % 16 = 0) :
    curveLevel curve n = curve.getD (n / 16) 0 := by
  have level_eq := curveLevel_eq_segmentLevel curve n
  rw [at_point, Int.natCast_zero, segmentLevel_zero] at level_eq
  exact Int.ofNat.inj level_eq

theorem curveLevel_255_eq_last_iff (curve : List Nat) :
    curveLevel curve 255 = curve.getD 16 0 ↔
      -7 ≤ (curve.getD 16 0 : Int) - (curve.getD 15 0 : Int) ∧
        (curve.getD 16 0 : Int) - (curve.getD 15 0 : Int) ≤ 8 := by
  rw [← segmentLevel_fifteen_eq_iff, ← Int.natCast_inj, curveLevel_eq_segmentLevel]
  rfl

theorem getD_le_of_forall_mem_le {bound : Nat} {curve : List Nat} (bounded : ∀ c ∈ curve, c ≤ bound) (i : Nat) :
    curve.getD i 0 ≤ bound := by
  rw [List.getD_eq_getElem?_getD]
  cases point : curve[i]? with
  | none => exact Nat.zero_le bound
  | some c => exact bounded c (List.mem_of_getElem? point)

theorem curveLevel_le_of_forall_mem_le {bound : Nat} {curve : List Nat} (bounded : ∀ c ∈ curve, c ≤ bound) (n : Nat) :
    curveLevel curve n ≤ bound :=
  Nat.le_trans (curveLevel_between curve n).2
    (Nat.max_le.mpr ⟨getD_le_of_forall_mem_le bounded _, getD_le_of_forall_mem_le bounded _⟩)

/-! ## The statements -/

/-- Settles O11: the two folds of the spread are the extremes of the list, and the mean lies between them. -/
theorem slotMeanAndSpread : Obligations.SlotMeanAndSpread := by
  unfold Obligations.SlotMeanAndSpread
  refine ⟨fun xs limit nonempty length_le bounded => ⟨rfl, ?sum_le, slotSpread_attained nonempty,
    slotNoisy_iff_of_ne_nil limit nonempty, ?single, ?different⟩, slotNoisy_nil⟩
  case sum_le =>
    calc xs.sum ≤ 1023 * xs.length := sum_le_of_forall_mem_le nonempty bounded
      _ ≤ 1023 * 8 := Nat.mul_le_mul_left 1023 length_le
  case single =>
    intro length_eq
    obtain ⟨x, rfl⟩ := List.length_eq_one_iff.mp length_eq
    simp [slotNoisy]
  case different =>
    rintro ⟨x, hx, y, hy, hne⟩
    exact (slotNoisy_iff_of_ne_nil 0 nonempty).mpr (slotSpread_pos_of_ne hx hy hne)

/-- Settles O13: the level is that of its segment, which never leaves the segment's two points. -/
theorem curveLevelLiesOnItsSegment : Obligations.CurveLevelLiesOnItsSegment := by
  unfold Obligations.CurveLevelLiesOnItsSegment
  intro curve n _ bounded _
  obtain ⟨above_lower, below_upper⟩ := curveLevel_between curve n
  refine ⟨curveLevel_eq_segmentLevel curve n, above_lower, below_upper,
    curveLevel_le_of_forall_mem_le bounded n, curveLevel_at_point curve, ?_⟩
  rintro rfl
  exact curveLevel_255_eq_last_iff curve

end Sys2Proof.Machine
end

section
/-! The attention line (ch 11): ATTN follows the pending causes through every operation (R164 to R166), and the part
rests before a placement is in force (R14, R23, R27). -/

namespace Sys2Proof.Machine

/-! ## ATTN under a mask

An operation that raises no cause leaves the status writer, which its frame law says. One that may raise a cause sets
ATTN with the pending set. So ATTN follows under one mask throughout, for no operation below changes the settings in
force. -/

/-- ATTN follows the pending causes under a mask (R166). -/
def StatusWriter.attends (t : StatusWriter) (mask : Byte) : Bool := decide (t.attn = attnLevel t.pending mask)

theorem Part.attnFollows_eq_attends (p : Part) :
    p.attnFollows = p.status.attends p.settings.attentionMask := rfl

theorem StatusWriter.attends_congr {t u : StatusWriter} (mask : Byte) (pending : u.pending = t.pending)
    (attn : u.attn = t.attn) : u.attends mask = t.attends mask := by
  rw [StatusWriter.attends, StatusWriter.attends, pending, attn]

/-! ### Operations that leave the status writer -/

section status
variable (p : Part)

@[simp] theorem gainLock_status : (gainLock p).status = p.status := by
  simp [gainLock]

@[simp] theorem setDrum_status (d : DrumState) : (setDrum d p).status = p.status := by
  unfold setDrum
  split
  · rfl
  · cases d <;> simp [status_ite]

@[simp] theorem enterLocking_status : (enterLocking p).status = p.status := by
  simp [enterLocking]

@[simp] theorem enterSpinup_status : (enterSpinup p).status = p.status := by
  simp [enterSpinup]

@[simp] theorem enterSpindown_status : (enterSpindown p).status = p.status := by
  simp [enterSpindown]

@[simp] theorem changeTarget_status : (changeTarget p).status = p.status := by
  simp only [changeTarget]
  split <;> simp

@[simp] theorem takeTarget_status (speed : Nat) : (takeTarget speed p).status = p.status := by
  simp only [takeTarget]
  split <;> simp

@[simp] theorem dropTarget_status : (dropTarget p).status = p.status := by
  unfold dropTarget
  split <;> simp

@[simp] theorem actOnDemand_status (was : Option Nat) : (actOnDemand was p).status = p.status := by
  simp only [actOnDemand]
  split
  · simp
  · split <;> simp

@[simp] theorem settleDemand_status (awaits : Bool) (before : Part) :
    (settleDemand awaits before p).status = p.status := by
  cases awaits <;> simp [settleDemand]

@[simp] theorem spinupPeriod_status (period : Nat) : (spinupPeriod period p).status = p.status := by
  simp [spinupPeriod, status_ite]

@[simp] theorem judgeWindow_status (err : Nat) : (judgeWindow err p).status = p.status := by
  simp [judgeWindow, status_ite]

@[simp] theorem enterScan_status (j : Job) : (enterScan j p).status = p.status := by
  simp [enterScan, status_ite]

@[simp] theorem storeEntry_status (locked : Bool) : (storeEntry locked p).status = p.status := by
  unfold storeEntry
  split <;> simp [status_ite]

@[simp] theorem callScanner_status (n : Nat) (j : Job) : (callScanner n j p).status = p.status := by
  simp [callScanner, status_ite]

@[simp] theorem enterStart_status (j : Job) : (enterStart j p).status = p.status := by
  simp [enterStart, status_ite]

end status

section mask
variable {p q : Part} {m : Byte}

theorem attends_ite {c : Prop} {_ : Decidable c} :
    (if c then p else q).status.attends m = if c then p.status.attends m else q.status.attends m :=
  apply_ite (fun r : Part => r.status.attends m) _ _ _

theorem mask_ite {c : Prop} {_ : Decidable c} :
    (if c then p else q).settings.attentionMask =
      if c then p.settings.attentionMask else q.settings.attentionMask :=
  apply_ite (fun r : Part => r.settings.attentionMask) _ _ _

/-! ### The status writer's own operations -/

theorem setCauses_attends (hm : p.settings.attentionMask = m) (pending fresh : Byte) :
    (p.setCauses pending fresh).status.attends m = true := by
  simp [Part.setCauses, StatusWriter.attends, hm]

@[simp] theorem raise_attends (hm : p.settings.attentionMask = m) (c : Attention) :
    (p.raise c).status.attends m = true :=
  setCauses_attends hm (p.status.pending ||| c.bit) (p.status.fresh ||| c.bit)

@[simp] theorem markChanges_attends (before : Part) :
    (markChanges before p).status.attends m = p.status.attends m := by
  rcases markChanges_cases before p with h | h <;> rw [h]
  exact StatusWriter.attends_congr m rfl rfl

@[simp] theorem closeEvent_attends (before : Part) :
    (closeEvent before p).status.attends m = p.status.attends m := by
  simp [closeEvent]

@[simp] theorem openWindow_attends : (openWindow p).status.attends m = p.status.attends m := rfl
@[simp] theorem shutWindow_attends : (shutWindow p).status.attends m = p.status.attends m := rfl
@[simp] theorem expireWindow_attends : (expireWindow p).status.attends m = p.status.attends m := rfl
@[simp] theorem startStatus_attends : (startStatus p).status.attends m = p.status.attends m := rfl
@[simp] theorem stepForward_attends : (stepForward p).status.attends m = p.status.attends m := rfl
@[simp] theorem countTick_attends : (countTick p).status.attends m = p.status.attends m := rfl

/-! ### Operations that set ATTN whatever it was -/

@[simp] theorem readCauses_attends (hm : p.settings.attentionMask = m) : (readCauses p).status.attends m = true :=
  setCauses_attends hm _ _

@[simp] theorem guardHit_attends (hm : p.settings.attentionMask = m) (x : Nat) :
    (guardHit x p).status.attends m = true := by
  simp [guardHit, hm]

@[simp] theorem closedCommand_settings (code : Byte) : (closedCommand code p).2.settings = p.settings := by
  unfold closedCommand
  split <;> rfl

/-- The echo of a command raises its cause, so ATTN follows whatever the command has done (R42). -/
@[simp] theorem takeCommand_attends (hm : p.settings.attentionMask = m) (code : Byte) :
    (takeCommand code p).status.attends m = true := by
  have mask_after_echo (r : CommandResult × Part) (kept : r.2.settings = p.settings) :
      (echoCommand code r.1 r.2).status.attends m = true := raise_attends (by simpa [kept] using hm) .command
  simp only [takeCommand]
  split <;> exact mask_after_echo _ (by simp)

variable (hm : p.settings.attentionMask = m) (h : p.status.attends m = true)
include hm h

@[simp] theorem snoopRead_attends (x : Nat) : (snoopRead x p).status.attends m = true := by
  simp [snoopRead, attends_ite, hm, h]

@[simp] theorem statusByteWritten_attends (i : Nat) (b : Byte) :
    (statusByteWritten i b p).status.attends m = true := by
  simp only [statusByteWritten]
  split
  · exact setCauses_attends hm p.status.pending 0
  · exact h

/-! ### Sides and offers -/

@[simp] theorem releaseHand_attends : (releaseHand p).status.attends m = true := by
  unfold releaseHand
  split
  · exact h
  · split <;> simp [hm, h]

@[simp] theorem enterStop_attends : (enterStop p).status.attends m = true := by
  simp [enterStop, hm, h]

@[simp] theorem senderIdle_attends : (senderIdle p).status.attends m = true := by
  simp [senderIdle, hm, h]

@[simp] theorem windDownSender_attends (cause : Cause) : (windDownSender cause p).status.attends m = true := by
  unfold windDownSender
  split <;> simp [attends_ite, hm, h]

@[simp] theorem windDown_attends (slot : JobSlot) (cause : Cause) :
    (windDown slot cause p).status.attends m = true := by
  unfold windDown
  split <;> simp [attends_ite, mask_ite, hm, h]

@[simp] theorem offer_attends (slot : JobSlot) (c : Cause) (named : Named) :
    (offer slot c named p).status.attends m = true := by
  unfold offer
  split <;> simp [attends_ite, hm, h]

@[simp] theorem offerSender_attends (c : Cause) : (offerSender c p).status.attends m = true := by
  unfold offerSender
  split <;> simp [hm, h]

/-! ### Jobs and commands -/

@[simp] theorem fetchByte_attends (b : Byte) : (fetchByte b p).status.attends m = true := by
  unfold fetchByte
  split <;> simp [endFetch, attends_ite, hm, h]

@[simp] theorem startJob_attends (s : JobSpec) : (startJob s p).status.attends m = true := by
  unfold startJob
  split <;> simp [attends_ite, hm, h]

@[simp] theorem dispatchPending_attends : (dispatchPending p).status.attends m = true := by
  unfold dispatchPending
  split <;> simp [attends_ite, hm, h]

@[simp] theorem snoopWrite_attends (x : Nat) (b : Byte) : (snoopWrite x b p).status.attends m = true := by
  simp [snoopWrite, attends_ite, hm, h]

/-! ### Transfers -/

@[simp] theorem judgeHeader_attends (hand : LineInHand) (b : Byte) :
    (judgeHeader hand b p).status.attends m = true := by
  simp [judgeHeader, attends_ite, hm, h]

@[simp] theorem receiveByte_attends (b : Byte) : (receiveByte b p).status.attends m = true := by
  unfold receiveByte
  split
  · exact h
  · simp [hm, h]

@[simp] theorem slipByteWritten_attends : (slipByteWritten p).status.attends m = true := by
  unfold slipByteWritten
  split <;> simp [slipWritten, attends_ite, hm, h]

/-! ### Line events -/

@[simp] theorem countScanStall_attends : (countScanStall p).status.attends m = true := by
  simp only [countScanStall]
  split <;> simp [hm, h]

@[simp] theorem commitLine_attends (j : Job) (l : OpenLine) : (commitLine j l p).status.attends m = true := by
  simp [commitLine, attends_ite, hm, h]

@[simp] theorem closeLine_attends (whole : Bool) (j : Job) : (closeLine whole j p).status.attends m = true := by
  unfold closeLine
  split <;> simp [damageLine, attends_ite, hm, h]

@[simp] theorem scannerClose_attends (whole : Bool) : (scannerClose whole p).status.attends m = true := by
  unfold scannerClose
  split <;> simp [attends_ite, hm, h]

@[simp] theorem scannerClaim_attends : (scannerClaim p).status.attends m = true := by
  unfold scannerClaim
  split <;> simp [claimSlot, attends_ite, hm, h]

@[simp] theorem judgeStall_attends (j : Job) : (judgeStall j p).status.attends m = true := by
  simp [judgeStall, attends_ite, hm, h]

@[simp] theorem repeatLine_attends (j : Job) : (repeatLine j p).status.attends m = true := by
  simp [repeatLine, attends_ite, mask_ite, hm, h]

@[simp] theorem endImage_attends (wasLast : Bool) (j : Job) : (endImage wasLast j p).status.attends m = true := by
  simp [endImage, attends_ite, mask_ite, hm, h]

@[simp] theorem imageLine_attends (before : Nat) (wasLast : Bool) (j : Job) :
    (imageLine before wasLast j p).status.attends m = true := by
  simp [imageLine, attends_ite, hm, h]

@[simp] theorem endStop_attends (j : Job) : (endStop j p).status.attends m = true := by
  simp [endStop, attends_ite, hm, h]

@[simp] theorem stopLine_attends (j : Job) : (stopLine j p).status.attends m = true := by
  simp only [stopLine]
  split <;> simp [hm, h]

@[simp] theorem toneLine_attends (before : Nat) (wasLast : Bool) (n : Nat) (j : Job) :
    (toneLine before wasLast n j p).status.attends m = true := by
  unfold toneLine
  split <;> simp [attends_ite, hm, h]

@[simp] theorem senderLine_attends (before : Nat) (wasLast : Bool) :
    (senderLine before wasLast p).status.attends m = true := by
  unfold senderLine
  split
  · exact h
  · split <;> simp [countedLine, attends_ite, hm, h]

@[simp] theorem releaseAtLine_attends : (releaseAtLine p).status.attends m = true := by
  simp [releaseAtLine, attends_ite, hm, h]

@[simp] theorem drumLineEvent_attends (whole lockedBefore : Bool) :
    (drumLineEvent whole lockedBefore p).status.attends m = true := by
  have released := releaseAtLine_attends hm h
  simp only [drumLineEvent]
  refine scannerClaim_attends ?mask ?sent
  case mask => split <;> split <;> simp [hm]
  case sent => split <;> split <;> simp [released, hm, h]

@[simp] theorem timerLineEvent_attends : (timerLineEvent p).status.attends m = true := by
  simp [timerLineEvent, attends_ite, hm, h]

/-! ### The drum -/

@[simp] theorem lockingPeriod_attends (found : Demands) (period : Nat) :
    (lockingPeriod found period p).status.attends m = true := by
  simp [lockingPeriod, attends_ite, hm, h]

@[simp] theorem judgeFault_attends (found : Demands) (err : Nat) :
    (judgeFault found err p).status.attends m = true := by
  simp [judgeFault, attends_ite, hm, h]

@[simp] theorem servoPeriod_attends (found : Demands) (period : Nat) :
    (servoPeriod found period p).status.attends m = true := by
  unfold servoPeriod
  split <;> simp [lockedPeriod, hm, h]

@[simp] theorem captureWork_attends (servoFirst whole : Bool) (period : Option Nat) :
    (captureWork servoFirst whole period p).status.attends m = true := by
  cases period <;> simp [captureWork, attends_ite, hm, h]

@[simp] theorem capture_attends (tick : Tick) (servoFirst : Bool) :
    (capture tick servoFirst p).status.attends m = true := by
  simp [capture, hm, h]

@[simp] theorem takeLockTimeout_attends : (takeLockTimeout p).status.attends m = true := by
  simp [takeLockTimeout, hm, h]

@[simp] theorem takeStallTime_attends : (takeStallTime p).status.attends m = true := by
  simp [takeStallTime, takeStall, attends_ite, hm, h]

/-! ### Conversions -/

@[simp] theorem judgeStrip_attends (l : OpenLine) : (judgeStrip l p).status.attends m = true := by
  unfold judgeStrip
  split <;> simp [stripFault, attends_ite, hm, h]

@[simp] theorem endStripSet_attends (l : OpenLine) (k : Nat) (xs : List Nat) :
    (endStripSet l k xs p).status.attends m = true := by
  simp [endStripSet, attends_ite, hm, h]

@[simp] theorem endSet_attends : (endSet p).status.attends m = true := by
  simp only [endSet]
  split
  · exact h
  · split <;> simp [attends_ite, hm, h]

@[simp] theorem handCentre_attends (offset : Nat) : (handCentre offset p).status.attends m = true := by
  simp [handCentre, scannerCentre, attends_ite, hm, h]

@[simp] theorem takeConversion_attends (value : Sample) : (takeConversion value p).status.attends m = true := by
  unfold takeConversion
  split <;> simp [attends_ite, hm, h]

/-! ### The tone detector and the timeouts -/

@[simp] theorem senderReady_attends : (senderReady p).status.attends m = true := by
  simp [senderReady, attends_ite, hm, h]

@[simp] theorem senderHalt_attends : (senderHalt p).status.attends m = true := by
  unfold senderHalt
  split <;> simp [hm, h]

@[simp] theorem senderReceipt_attends : (senderReceipt p).status.attends m = true := by
  simp [senderReceipt, attends_ite, hm, h]

@[simp] theorem farEndEvent_attends (tone : Tone) : (farEndEvent tone p).status.attends m = true := by
  have heard : ({ p.status with lastTone := some tone } : StatusWriter).attends m = true := h
  simp only [farEndEvent]
  split
  · exact heard
  · cases tone <;> simp [hm, heard]

@[simp] theorem takeEdge_attends (micro : Tick) : (takeEdge micro p).status.attends m = true := by
  unfold takeEdge
  split
  · simp [h]
  · simp only [judgeCycle, attends_ite]
    (repeat' split) <;> simp [hm, h]

@[simp] theorem failHoming_attends : (failHoming p).status.attends m = true := by
  simp [failHoming, attends_ite, hm, h]

end mask

end Sys2Proof.Machine
end

section
/-! The part at rest (R14, R23, R27): what rest says of each block, which updates keep it, and that nothing is due
while it lasts. -/

namespace Sys2Proof.Machine

/-! ## What rest says of each block -/

theorem Part.atRest_iff {p : Part} :
    p.atRest = true ↔ p.path.atRest = true ∧ p.disp.atRest = true ∧ p.servo.atRest = true ∧
      p.angle.schedule = none ∧ p.timer.running = none ∧ p.scanner.atRest = true ∧ p.sender.atRest = true ∧
      p.detector.previous = none ∧ p.slips.write = none ∧ p.status.atRest = true := by
  simp [Part.atRest, and_assoc]

theorem MemoryPath.atRest_iff {m : MemoryPath} :
    m.atRest = true ↔ m.guards = GuardSet.empty ∧ m.port.noPart = true ∧ m.waiting = none ∧ m.wait = false := by
  simp [MemoryPath.atRest, and_assoc]

theorem Dispatcher.atRest_iff {d : Dispatcher} :
    d.atRest = true ↔ d.fetch = none ∧ d.pendingJob = none ∧ d.scanJob = none ∧ d.relayJob = none ∧
      d.slipQueue = [] := by
  simp [Dispatcher.atRest, and_assoc]

theorem Servo.atRest_iff {v : Servo} :
    v.atRest = true ↔ v.drum = .stopped ∧ v.demands = Demands.none ∧ v.duty = 0 ∧ v.nextDuty = 0 ∧
      v.activeDuty = 0 ∧ v.lockRunning = false := by
  simp [Servo.atRest, and_assoc]

theorem Scanner.atRest_iff {c : Scanner} :
    c.atRest = true ↔ c.state = .idle ∧ c.homing = false ∧ c.stepsOwed = 0 ∧ c.openLine = none ∧
      c.convSet = none ∧ c.fifo = [] ∧ c.lamp = false ∧ c.step = false ∧ c.reverse = false := by
  simp [Scanner.atRest, and_assoc]

theorem Sender.atRest_iff {d : Sender} :
    d.atRest = true ↔ d.state = .idle ∧ d.hand = none ∧ d.txa = 128 := by
  simp [Sender.atRest, and_assoc]

theorem StatusWriter.atRest_iff {t : StatusWriter} :
    t.atRest = true ↔ t.write = none ∧ t.window = none ∧ t.pending = 0 ∧ t.attn = false ∧ t.spacing = none := by
  simp [StatusWriter.atRest, and_assoc]

/-! Rest says nothing of the timebase and the loader. -/

@[simp] theorem onClock_atRest (p : Part) (f : Timebase → Timebase) : (p.onClock f).atRest = p.atRest := rfl
@[simp] theorem onLoader_atRest (p : Part) (f : Loader → Loader) : (p.onLoader f).atRest = p.atRest := rfl

section rest
variable {p : Part} (rest : p.atRest = true)
include rest

theorem path_atRest : p.path.atRest = true := (Part.atRest_iff.mp rest).1

theorem disp_atRest : p.disp.atRest = true := by
  obtain ⟨-, disp, -⟩ := Part.atRest_iff.mp rest
  exact disp

theorem servo_atRest : p.servo.atRest = true := by
  obtain ⟨-, -, servo, -⟩ := Part.atRest_iff.mp rest
  exact servo

theorem schedule_of_atRest : p.angle.schedule = none := by
  obtain ⟨-, -, -, schedule, -⟩ := Part.atRest_iff.mp rest
  exact schedule

theorem timer_of_atRest : p.timer.running = none := by
  obtain ⟨-, -, -, -, running, -⟩ := Part.atRest_iff.mp rest
  exact running

theorem scanner_atRest : p.scanner.atRest = true := by
  obtain ⟨-, -, -, -, -, scanner, -⟩ := Part.atRest_iff.mp rest
  exact scanner

theorem sender_atRest : p.sender.atRest = true := by
  obtain ⟨-, -, -, -, -, -, sender, -⟩ := Part.atRest_iff.mp rest
  exact sender

theorem detector_of_atRest : p.detector.previous = none := by
  obtain ⟨-, -, -, -, -, -, -, previous, -⟩ := Part.atRest_iff.mp rest
  exact previous

theorem slips_of_atRest : p.slips.write = none := by
  obtain ⟨-, -, -, -, -, -, -, -, write, -⟩ := Part.atRest_iff.mp rest
  exact write

theorem status_atRest : p.status.atRest = true := by
  obtain ⟨-, -, -, -, -, -, -, -, -, status⟩ := Part.atRest_iff.mp rest
  exact status

/-! ## Updates of one block that leave it at rest -/

theorem onPath_atRest {f : MemoryPath → MemoryPath} (kept : (f p.path).atRest = true) :
    (p.onPath f).atRest = true := by
  obtain ⟨-, others⟩ := Part.atRest_iff.mp rest
  exact Part.atRest_iff.mpr ⟨kept, others⟩

theorem onServo_atRest {f : Servo → Servo} (kept : (f p.servo).atRest = true) : (p.onServo f).atRest = true := by
  obtain ⟨path, disp, -, others⟩ := Part.atRest_iff.mp rest
  exact Part.atRest_iff.mpr ⟨path, disp, kept, others⟩

theorem onScanner_atRest {f : Scanner → Scanner} (kept : (f p.scanner).atRest = true) :
    (p.onScanner f).atRest = true := by
  obtain ⟨path, disp, servo, schedule, running, -, others⟩ := Part.atRest_iff.mp rest
  exact Part.atRest_iff.mpr ⟨path, disp, servo, schedule, running, kept, others⟩

theorem onSender_atRest {f : Sender → Sender} (kept : (f p.sender).atRest = true) :
    (p.onSender f).atRest = true := by
  obtain ⟨path, disp, servo, schedule, running, scanner, -, others⟩ := Part.atRest_iff.mp rest
  exact Part.atRest_iff.mpr ⟨path, disp, servo, schedule, running, scanner, kept, others⟩

theorem onStatus_atRest {f : StatusWriter → StatusWriter} (kept : (f p.status).atRest = true) :
    (p.onStatus f).atRest = true := by
  obtain ⟨path, disp, servo, schedule, running, scanner, sender, previous, write, -⟩ := Part.atRest_iff.mp rest
  exact Part.atRest_iff.mpr
    ⟨path, disp, servo, schedule, running, scanner, sender, previous, write, kept⟩

/-! ## Nothing is due at rest -/

theorem wants_of_atRest (r : Requester) : p.wants r = false := by
  obtain ⟨fetch, -⟩ := Dispatcher.atRest_iff.mp (disp_atRest rest)
  obtain ⟨-, -, -, openLine, -⟩ := Scanner.atRest_iff.mp (scanner_atRest rest)
  obtain ⟨-, hand, -⟩ := Sender.atRest_iff.mp (sender_atRest rest)
  obtain ⟨write, -⟩ := StatusWriter.atRest_iff.mp (status_atRest rest)
  cases r <;> simp [Part.wants, fetch, openLine, hand, write, slips_of_atRest rest]

theorem grantIdle_of_atRest : grantIdle p = p := by
  rcases grantIdle_cases p with same | ⟨r, -, wanted, -⟩
  · exact same
  · simp [wants_of_atRest rest r] at wanted

theorem lockDue_of_atRest : p.lockDue = false := by
  obtain ⟨-, -, -, -, -, lockRunning⟩ := Servo.atRest_iff.mp (servo_atRest rest)
  simp [Part.lockDue, lockRunning]

theorem stallDue_of_atRest : p.stallDue = false := by
  obtain ⟨drum, -⟩ := Servo.atRest_iff.mp (servo_atRest rest)
  simp [Part.stallDue, drum]

theorem startHeld_of_atRest : p.startHeld = none := by
  simp [Part.startHeld, schedule_of_atRest rest]

theorem centreHeld_of_atRest : p.centreHeld = none := by
  simp [Part.centreHeld, schedule_of_atRest rest]

theorem timerStartHeld_of_atRest : p.timerStartHeld = none := by
  simp [Part.timerStartHeld, timer_of_atRest rest]

theorem convSet_of_atRest : p.scanner.convSet = none := by
  obtain ⟨-, -, -, -, convSet, -⟩ := Scanner.atRest_iff.mp (scanner_atRest rest)
  exact convSet

theorem stepsOwed_of_atRest : p.scanner.stepsOwed = 0 := by
  obtain ⟨-, -, stepsOwed, -⟩ := Scanner.atRest_iff.mp (scanner_atRest rest)
  exact stepsOwed

theorem homing_of_atRest : p.scanner.homing = false := by
  obtain ⟨-, homing, -⟩ := Scanner.atRest_iff.mp (scanner_atRest rest)
  exact homing

theorem homeDue_of_atRest : p.homeDue = false := by
  simp [Part.homeDue, homing_of_atRest rest]

theorem lampDue_of_atRest : p.lampDue = false := by
  obtain ⟨state, -⟩ := Scanner.atRest_iff.mp (scanner_atRest rest)
  simp [Part.lampDue, state]

theorem senderState_of_atRest : p.sender.state = .idle := (Sender.atRest_iff.mp (sender_atRest rest)).1

theorem readyDue_of_atRest : p.readyDue = false := by
  simp [Part.readyDue, senderState_of_atRest rest]

theorem receiptDue_of_atRest : p.receiptDue = false := by
  simp [Part.receiptDue, senderState_of_atRest rest]

theorem lossDue_of_atRest : p.lossDue = false := by
  simp [Part.lossDue, senderState_of_atRest rest]

theorem window_of_atRest : p.status.window = none := by
  obtain ⟨-, window, -⟩ := StatusWriter.atRest_iff.mp (status_atRest rest)
  exact window

theorem waiting_of_atRest : p.path.waiting = none := by
  obtain ⟨-, -, waiting, -⟩ := MemoryPath.atRest_iff.mp (path_atRest rest)
  exact waiting

theorem port_of_atRest (t : Transfer) : p.path.port ≠ .part t := by
  obtain ⟨-, noPart, -⟩ := MemoryPath.atRest_iff.mp (path_atRest rest)
  intro busy
  simp [busy, Port.noPart] at noPart

theorem dispatchPending_of_atRest : dispatchPending p = p := by
  obtain ⟨-, pendingJob, -⟩ := Dispatcher.atRest_iff.mp (disp_atRest rest)
  simp [dispatchPending, pendingJob]

theorem takeConversion_of_atRest (value : Sample) : takeConversion value p = p := by
  simp [takeConversion, convSet_of_atRest rest]

theorem finishJobs_of_atRest : finishJobs p = p := by
  obtain ⟨-, -, scanJob, relayJob, -⟩ := Dispatcher.atRest_iff.mp (disp_atRest rest)
  have no_job (slot : JobSlot) : p.jobOver slot = false := by
    cases slot <;> simp [Part.jobOver, Part.jobAt, scanJob, relayJob]
  simp [finishJobs, finishJob_running, no_job]

theorem awaitsDispatch_of_atRest : p.awaitsDispatch = false := by
  obtain ⟨drum, -⟩ := Servo.atRest_iff.mp (servo_atRest rest)
  simp [Part.awaitsDispatch, drum, DrumState.driven]

/-! ## Operations that keep the rest -/

/-- Whatever demand was in force before, a STOPPED drum with none now is left alone (R53). -/
theorem actOnDemand_of_atRest (was : Option Nat) :
    actOnDemand was p = p.onServo fun v => { v with unsettled := none } := by
  obtain ⟨drum, demands, -⟩ := Servo.atRest_iff.mp (servo_atRest rest)
  have no_demand : p.servo.demands.inForce = none := by rw [demands]; rfl
  simp [actOnDemand, no_demand, dropTarget, drum]

theorem tidyServo_atRest : (tidyServo p).atRest = true := by
  obtain ⟨drum, demands, duty, nextDuty, activeDuty, lockRunning⟩ := Servo.atRest_iff.mp (servo_atRest rest)
  simp only [tidyServo, drum, reduceCtorEq, if_false]
  split
  · exact rest
  · exact onServo_atRest rest (Servo.atRest_iff.mpr ⟨drum, demands, duty, nextDuty, activeDuty, lockRunning⟩)

theorem settleDemand_atRest (before : Part) : (settleDemand false before p).atRest = true := by
  obtain ⟨drum, demands, duty, nextDuty, activeDuty, lockRunning⟩ := Servo.atRest_iff.mp (servo_atRest rest)
  simp only [settleDemand, actOnDemand_of_atRest rest, Bool.false_eq_true, if_false]
  exact tidyServo_atRest
    (onServo_atRest rest (Servo.atRest_iff.mpr ⟨drum, demands, duty, nextDuty, activeDuty, lockRunning⟩))

theorem markChanges_atRest (before : Part) : (markChanges before p).atRest = true := by
  rcases markChanges_cases before p with same | dirty
  · rwa [same]
  · rw [dirty]
    exact onStatus_atRest rest (status_atRest rest)

theorem closeEvent_atRest (before : Part) : (closeEvent before p).atRest = true := by
  have closed := markChanges_atRest (settleDemand_atRest rest before) before
  simp only [closeEvent, finishJobs_of_atRest rest, awaitsDispatch_of_atRest rest]
  rwa [grantIdle_of_atRest closed]

theorem startRead_atRest : (startRead p).atRest = true := by
  unfold startRead
  split
  · rwa [onLoader_atRest]
  · exact rest

theorem countServo_atRest : (countServo p).atRest = true := onServo_atRest rest (servo_atRest rest)

theorem countScanner_atRest : (countScanner p).atRest = true := onScanner_atRest rest (scanner_atRest rest)

theorem countSender_atRest : (countSender p).atRest = true := onSender_atRest rest (sender_atRest rest)

theorem expireJobTimer_atRest : (expireJobTimer p).atRest = true :=
  countSender_atRest (countScanner_atRest (countServo_atRest (startRead_atRest (by rwa [onClock_atRest]))))

theorem wrapTick_atRest : (wrapTick p).atRest = true := by
  simp only [wrapTick]
  rw [onClock_atRest]
  split
  · exact onServo_atRest rest (servo_atRest rest)
  · exact rest

theorem advanceTick_atRest (tick : Tick) : (advanceTick tick p).atRest = true := by
  simp only [advanceTick]
  rw [onClock_atRest]
  split
  · exact onServo_atRest rest (servo_atRest rest)
  · exact rest

theorem startPwm_atRest : (startPwm p).atRest = true := by
  obtain ⟨drum, demands, duty, nextDuty, -, lockRunning⟩ := Servo.atRest_iff.mp (servo_atRest rest)
  exact onServo_atRest (p := p.onClock _) rest
    (Servo.atRest_iff.mpr ⟨drum, demands, duty, nextDuty, nextDuty, lockRunning⟩)

theorem sampleTone_atRest : (sampleTone p).atRest = true := by
  obtain ⟨state, hand, -⟩ := Sender.atRest_iff.mp (sender_atRest rest)
  simp only [sampleTone, state, SenderState.toneOn]
  exact onSender_atRest rest (Sender.atRest_iff.mpr ⟨state, hand, rfl⟩)

theorem refuseImage_atRest : (refuseImage p).atRest = true := rest

/-- With no spacing and no window to count, and no schedule and no line timer running, a tick moves the step spacing
count alone. -/
theorem countTick_atRest : (countTick p).atRest = true := by
  obtain ⟨path, disp, servo, schedule, running, scanner, sender, previous, slips, status⟩ := Part.atRest_iff.mp rest
  obtain ⟨state, homing, stepsOwed, openLine, convSet, fifo, lamp, -, reverse⟩ := Scanner.atRest_iff.mp scanner
  obtain ⟨write, window, pending, attn, spacing⟩ := StatusWriter.atRest_iff.mp status
  refine Part.atRest_iff.mpr ⟨path, disp, servo, ?schedule, ?running, ?scanner, sender, previous, slips, ?status⟩
  case schedule => simp [countTick, schedule]
  case running => simp [countTick, running]
  case scanner =>
    exact Scanner.atRest_iff.mpr ⟨state, homing, stepsOwed, openLine, convSet, fifo, lamp, rfl, reverse⟩
  case status =>
    exact StatusWriter.atRest_iff.mpr
      ⟨write, by simp [countTick, window], pending, attn, by simp [countTick, spacing]⟩

theorem passTick_atRest : (passTick p).atRest = true := by
  have counted := countTick_atRest rest
  simp only [passTick, moveTick]
  split
  · exact wrapTick_atRest counted
  · rwa [onClock_atRest]

theorem passMicro_atRest : (passMicro p).atRest = true := by
  obtain ⟨path, disp, servo, schedule, running, scanner, sender, previous, others⟩ := Part.atRest_iff.mp rest
  refine Part.atRest_iff.mpr ⟨path, disp, servo, schedule, running, scanner, sender, ?_, others⟩
  simp [passMicro, previous]

theorem movePwm_atRest : (movePwm p).atRest = true := by
  unfold movePwm
  split
  · exact startPwm_atRest rest
  · rwa [onClock_atRest]

theorem clockLink_atRest : (clockLink p).atRest = true := by
  rcases clockLink_cases p with same | ⟨cfck, shifted, moved⟩
  · rwa [same]
  · rwa [moved, onLoader_atRest]

end rest

end Sys2Proof.Machine
end

section
/-! What a step keeps of ATTN and of the rest before a placement (O5): each operation of the machine is an `AttnStep`,
and so is their composition. -/

namespace Sys2Proof.Machine

open Sys2Proof.Claims (answers)

/-! ## The placement at a command -/

theorem isOpen_placed {p : Part} (h : p.isOpen = true) : p.placed = true := by
  simp only [Part.isOpen, decide_eq_true_eq] at h
  simp [Part.placed, h]

theorem fetchReady_placed {p : Part} (h : p.fetchReady = true) : p.placed = true := by
  simp only [Part.fetchReady, Bool.and_eq_true] at h
  obtain ⟨⟨⟨isOpen, -⟩, -⟩, -⟩ := h
  exact isOpen_placed isOpen

theorem slipReady_placed {p : Part} (h : p.slipReady = true) : p.placed = true := by
  simp only [Part.slipReady, Bool.and_eq_true] at h
  obtain ⟨⟨⟨isOpen, -⟩, -⟩, -⟩ := h
  exact isOpen_placed isOpen

theorem statusReady_placed {p : Part} (h : p.statusReady = true) : p.placed = true := by
  simp only [Part.statusReady, Bool.and_eq_true] at h
  obtain ⟨⟨⟨⟨placed, -⟩, -⟩, -⟩, -⟩ := h
  exact placed

theorem captures_placed {p : Part} {tick : Tick} (h : captures p tick = true) : p.placed = true := by
  simp only [captures, Bool.and_eq_true] at h
  obtain ⟨⟨placed, -⟩, -⟩ := h
  exact placed

/-- A command in CLOSED opens the device or leaves it (R25, R26). -/
theorem closedCommand_placed {p : Part} (placed : p.placed = true) (code : Byte) :
    (closedCommand code p).2.placed = true := by
  unfold closedCommand
  split
  · rfl
  · exact placed

@[simp] theorem takeCommand_settings (p : Part) (code : Byte) : (takeCommand code p).settings = p.settings := by
  simp only [takeCommand]
  split <;> simp

theorem takeCommand_placed {p : Part} (placed : p.placed = true) (code : Byte) :
    (takeCommand code p).placed = true := by
  simp only [takeCommand]
  split
  · simpa using placed
  · simpa using closedCommand_placed placed code

@[simp] theorem snoopWrite_settings (p : Part) (x : Nat) (b : Byte) : (snoopWrite x b p).settings = p.settings := by
  simp only [snoopWrite]
  (repeat' split) <;> simp

theorem snoopWrite_placed {p : Part} (placed : p.placed = true) (x : Nat) (b : Byte) :
    (snoopWrite x b p).placed = true := by
  simp only [snoopWrite]
  (repeat' split) <;> simp [placed, takeCommand_placed]

/-! ## Steps -/

/-- From `p` to `q` ATTN goes on following the pending causes, and rest goes on while no placement is in force. -/
structure AttnStep (p q : Part) : Prop where
  attn : p.attnFollows = true → q.attnFollows = true
  rests : p.restsUnplaced = true → q.restsUnplaced = true

namespace AttnStep
variable {p q r : Part}

theorem refl (p : Part) : AttnStep p p := ⟨id, id⟩

theorem trans (first : AttnStep p q) (second : AttnStep q r) : AttnStep p r :=
  ⟨second.attn ∘ first.attn, second.rests ∘ first.rests⟩

/-- An operation that keeps the settings and the placement needs to keep the rest only while nothing is placed. -/
theorem of_keeps (settings : q.settings = p.settings) (placed : p.placed = true → q.placed = true)
    (attends : ∀ {m : Byte}, p.settings.attentionMask = m → p.status.attends m = true → q.status.attends m = true)
    (rest : p.placed = false → p.atRest = true → q.atRest = true) : AttnStep p q where
  attn h := by
    rw [Part.attnFollows_eq_attends] at h ⊢
    rw [settings]
    exact attends rfl h
  rests h := by
    simp only [Part.restsUnplaced, Bool.or_eq_true] at h ⊢
    cases was : p.placed with
    | true => exact .inl (placed was)
    | false => exact .inr (rest was (h.resolve_left (by simp [was])))

/-- Work that a part at rest never does. -/
theorem of_work (busy : p.atRest = true → p.placed = true) (settings : q.settings = p.settings)
    (placed : q.placed = p.placed)
    (attends : ∀ {m : Byte}, p.settings.attentionMask = m → p.status.attends m = true → q.status.attends m = true) :
    AttnStep p q :=
  of_keeps settings (placed.trans ·) attends fun unplaced rest => by simp [busy rest] at unplaced

/-- An operation that leaves the status writer and the loader. -/
theorem of_status (settings : q.settings = p.settings) (placed : q.placed = p.placed) (status : q.status = p.status)
    (rest : p.atRest = true → q.atRest = true) : AttnStep p q :=
  of_keeps settings (placed.trans ·) (fun _ attends => by rwa [status]) fun _ => rest

theorem close (before p : Part) : AttnStep p (closeEvent before p) :=
  of_keeps (by simp) (by simp) (fun _ attends => by rwa [closeEvent_attends])
    fun _ rest => closeEvent_atRest rest before

theorem choice {c : Prop} {_ : Decidable c} (yes : c → AttnStep p q) (no : ¬c → AttnStep p r) :
    AttnStep p (if c then q else r) := by
  split
  case isTrue h => exact yes h
  case isFalse h => exact no h

/-- The shape of most commands: an event and its close when something is due. -/
theorem event {due : Prop} {_ : Decidable due} (work : due → AttnStep p q) :
    AttnStep p (if due then closeEvent p q else p) :=
  choice (fun h => (work h).trans (close p q)) fun _ => refl p

/-- The same for an event with an offset, due while a clock still has a slot to hand on. -/
theorem eventAt {held : Option Nat} {f : Nat → Part} :
    (∀ offset, held = some offset → AttnStep p (f offset)) →
      AttnStep p (match held with
        | some offset => closeEvent p (f offset)
        | none => p) := by
  intro work
  cases held with
  | none => exact refl p
  | some offset => exact (work offset rfl).trans (close p _)

end AttnStep

/-! ## The memory path -/

section path
variable (s : State)

/-- An update of the memory path that keeps its rest. -/
theorem onPath_attnStep (f : MemoryPath → MemoryPath)
    (kept : s.part.path.atRest = true → (f s.part.path).atRest = true) :
    AttnStep s.part (s.onPart fun p => p.onPath f).part :=
  .of_status rfl rfl rfl fun rest => onPath_atRest rest (kept (path_atRest rest))

theorem grantIdle_attnStep (p : Part) : AttnStep p (grantIdle p) :=
  .of_status (by simp) (by simp) (by simp) fun rest => by rwa [grantIdle_of_atRest rest]

theorem serveRead_attnStep (x : Nat) : AttnStep s.part (serveRead x s).part := by
  refine .trans (onPath_attnStep s (fun m => { m with dataOut := s.ram.read x }) id) ?_
  simp only [serveRead, State.onPart_part]
  split
  case isTrue placed =>
    exact .of_work (fun _ => placed) (by simp) (by simp) fun hm attends => snoopRead_attends hm attends x
  case isFalse => exact .refl _

theorem serveWrite_attnStep (x : Nat) (b : Byte) : AttnStep s.part (serveWrite x b s).part := by
  unfold serveWrite
  split
  case isTrue dropped =>
    simp only [Part.drops, Bool.and_eq_true] at dropped
    exact .of_work (fun _ => dropped.1) (by simp) (by simp) fun hm _ => guardHit_attends hm x
  case isFalse =>
    change AttnStep s.part (if s.part.placed then snoopWrite x b s.part else s.part)
    split
    case isTrue placed =>
      exact .of_keeps (by simp) (snoopWrite_placed · x b) (fun hm attends => snoopWrite_attends hm attends x b)
        fun unplaced => by simp [placed] at unplaced
    case isFalse => exact .refl _

theorem grantHost_attnStep (a : HostAccess) : AttnStep s.part (grantHost a s).part := by
  have granted := onPath_attnStep s (fun m => { m with port := .host, waiting := none }) fun kept => by
    obtain ⟨guards, -, -, wait⟩ := MemoryPath.atRest_iff.mp kept
    exact MemoryPath.atRest_iff.mpr ⟨guards, rfl, rfl, wait⟩
  cases a with
  | read x => exact granted.trans (serveRead_attnStep _ x)
  | write x b => exact granted.trans (serveWrite_attnStep _ x b)

theorem freePort_attnStep : AttnStep s.part (freePort s).part :=
  onPath_attnStep s (fun m => { m with port := .idle }) fun kept => by
    obtain ⟨guards, -, others⟩ := MemoryPath.atRest_iff.mp kept
    exact MemoryPath.atRest_iff.mpr ⟨guards, rfl, others⟩

/-- At rest no owner has work for the byte that arrives. -/
theorem finishTransfer_attnStep (t : Transfer) : AttnStep s.part (finishTransfer t s).part := by
  unfold finishTransfer
  cases t.who with
  | lineSender =>
    simp only [State.onPart_part]
    split
    · exact .refl _
    · exact .of_keeps (by simp) (by simp) (fun hm attends => receiveByte_attends hm attends _) fun _ rest => by
        obtain ⟨-, hand, -⟩ := Sender.atRest_iff.mp (sender_atRest rest)
        simpa [receiveByte, hand] using rest
  | scanner =>
    simp only [State.onPart_part, State.onRam_part]
    split
    · exact .refl _
    · exact .of_status (by simp) (by simp) (by simp) fun rest => by
        have scanner := scanner_atRest rest
        refine onScanner_atRest rest (Scanner.atRest_iff.mpr ?_)
        simpa [Scanner.atRest_iff] using scanner
  | statusWriter =>
    cases write : s.part.status.write with
    | none => exact .refl _
    | some i =>
      exact .of_work (fun rest => by simp [(StatusWriter.atRest_iff.mp (status_atRest rest)).1] at write) (by simp)
        (by simp) fun hm attends => statusByteWritten_attends hm attends i _
  | slipWriter =>
    exact .of_keeps (by simp) (by simp) (fun hm attends => slipByteWritten_attends hm attends) fun _ rest => by
      simpa [slipByteWritten, slips_of_atRest rest] using rest
  | dispatcher =>
    exact .of_keeps (by simp) (by simp) (fun hm attends => fetchByte_attends hm attends _) fun _ rest => by
      obtain ⟨fetch, -⟩ := Dispatcher.atRest_iff.mp (disp_atRest rest)
      simpa [fetchByte, fetch] using rest

theorem regrant_attnStep : AttnStep s.part (regrant s).part := by
  cases waiting : s.part.path.waiting with
  | none => simpa [regrant, waiting] using grantIdle_attnStep s.part
  | some w =>
    simp only [regrant, waiting]
    split
    · exact grantHost_attnStep s w.access
    · split
      · exact .of_work (fun rest => by simp [waiting_of_atRest rest] at waiting) (by simp) (by simp)
          fun _ attends => by simpa using attends
      · exact grantHost_attnStep s w.access

theorem completeTransfer_attnStep : AttnStep s.part (completeTransfer s).part := by
  have freed := freePort_attnStep s
  unfold completeTransfer
  split
  · exact .refl _
  · have released := onPath_attnStep (freePort s) (fun m => { m with wait := false }) fun kept => by
      obtain ⟨guards, noPart, waiting, -⟩ := MemoryPath.atRest_iff.mp kept
      exact MemoryPath.atRest_iff.mpr ⟨guards, noPart, waiting, rfl⟩
    exact ((freed.trans released).trans (regrant_attnStep _)).trans (.close _ _)
  · exact ((freed.trans (finishTransfer_attnStep _ _)).trans (regrant_attnStep _)).trans (.close _ _)

theorem freeBus_attnStep (n : Nat) : AttnStep s.part (freeBus n s).part := by
  induction n generalizing s with
  | zero => exact .refl _
  | succ n ih =>
    simp only [freeBus]
    split
    · exact (completeTransfer_attnStep s).trans (ih _)
    · exact .refl _

theorem arrive_attnStep (a : HostAccess) : AttnStep s.part (arrive a s).part := by
  unfold arrive
  split
  case h_1 t port =>
    exact .of_work (fun rest => absurd port (port_of_atRest rest t)) (by simp) (by simp)
      fun _ attends => by simpa using attends
  case h_2 => exact (grantHost_attnStep s a).trans (.close _ _)

theorem hostAccess_attnStep (a : HostAccess) : AttnStep s.part (hostAccess a s).part :=
  (freeBus_attnStep s 3).trans (arrive_attnStep _ a)

theorem readStatus_attnStep (i : Nat) : AttnStep s.part (readStatus i s).part := by
  unfold readStatus
  split
  · exact hostAccess_attnStep s _
  · exact .refl _

theorem writeRequest_attnStep (i : Nat) (b : Byte) : AttnStep s.part (writeRequest i b s).part := by
  unfold writeRequest
  split
  · exact hostAccess_attnStep s _
  · exact .refl _

/-- RESET brings every block to rest, with ATTN inactive (R27, R167). -/
theorem resetPart_attnStep (p : Part) : AttnStep p (resetPart p) where
  attn _ := by simp [Part.attnFollows, resetPart, Part.reset, attnLevel]
  rests _ := rfl

theorem resetMachine_attnStep : AttnStep s.part (resetMachine s).part := by
  have reset := resetPart_attnStep s.part
  simp only [resetMachine]
  split
  · exact reset.trans (grantHost_attnStep (s.onPart resetPart) _)
  · exact reset.trans (onPath_attnStep (s.onPart resetPart) (fun m => { m with port := .host }) fun _ => rfl)
  · exact reset

end path

/-! ## The loader -/

/-- A refused image leaves every block but the loader, and the settings in force; the device is not placed (R23). -/
theorem refuseImage_attnStep {p : Part} (unplaced : p.placed = false) : AttnStep p (refuseImage p) :=
  .of_keeps rfl (fun placed => by simp [unplaced] at placed) (fun _ attends => attends) 
    fun _ rest => refuseImage_atRest rest

/-- An accepted image puts its settings in force and raises START under them (R24). -/
theorem acceptImage_attnStep (p : Part) : AttnStep p (acceptImage p) where
  attn _ := by
    rw [Part.attnFollows_eq_attends]
    exact raise_attends rfl .start
  rests _ := by
    simp only [Part.restsUnplaced, Bool.or_eq_true]
    exact .inl rfl

theorem takeImageByte_attnStep {p : Part} (loading : p.loader.device = .loading) (b : Byte) :
    AttnStep p (takeImageByte b p) := by
  have unplaced : p.placed = false := by simp [Part.placed, loading]
  have joined : AttnStep p (p.onLoader fun l => l.addByte b) :=
    .of_status rfl rfl rfl fun rest => by rwa [onLoader_atRest]
  simp only [takeImageByte]
  split
  · exact joined.trans (refuseImage_attnStep unplaced)
  · split
    · exact joined
    · split
      · exact joined.trans (acceptImage_attnStep _)
      · exact joined.trans (refuseImage_attnStep unplaced)

/-! ## The clock and the inputs -/

theorem setPins_attnStep (p : Part) (pins : Pins) : AttnStep p (p.setPins pins) :=
  .of_status rfl rfl rfl id

theorem onClock_attnStep (p : Part) (f : Timebase → Timebase) : AttnStep p (p.onClock f) :=
  .of_status rfl rfl rfl id

theorem expireJobTimer_attnStep (p : Part) : AttnStep p (expireJobTimer p) := by
  have loader : (expireJobTimer p).settings = p.settings ∧ (expireJobTimer p).placed = p.placed := by
    simp only [expireJobTimer, startRead]
    split <;> simp [Part.settings, Part.placed]
  exact .of_status loader.1 loader.2 (by simp) expireJobTimer_atRest

theorem advanceTick_attnStep (p : Part) (tick : Tick) : AttnStep p (advanceTick tick p) :=
  .of_status (by simp) (by simp) (by simp) (advanceTick_atRest · tick)

theorem passBeat_attnStep (p : Part) : AttnStep p (passBeat p) := by
  have pwm : AttnStep p (movePwm p) := .of_status (by simp) (by simp) (by simp) movePwm_atRest
  have link (q : Part) : AttnStep q (clockLink q) := .of_status (by simp) (by simp) (by simp) clockLink_atRest
  have micro (q : Part) : AttnStep q (passMicro q) := .of_status (by simp) (by simp) (by simp) passMicro_atRest
  have tick (q : Part) : AttnStep q (passTick q) :=
    .of_keeps (by simp) (by simp) (by simp [passTick]) fun _ => passTick_atRest
  exact (((pwm.trans (link _)).trans (onClock_attnStep _ _)).trans
    (.choice (fun _ => micro _) fun _ => .refl _)).trans (.choice (fun _ => tick _) fun _ => .refl _)

theorem idleBeat_attnStep (p : Part) : AttnStep p (idleBeat p) :=
  .choice (fun _ => .refl p) fun _ => passBeat_attnStep p

/-! ## Every command -/

theorem exec_attnStep (c : Instr) (s : State) : answers c s fun t => AttnStep s.part t.part := by
  cases c with
  | reset => exact ⟨_, rfl, resetMachine_attnStep s⟩
  | hostRead offset => exact ⟨_, rfl, hostAccess_attnStep s _⟩
  | hostWrite offset byte => exact ⟨_, rfl, hostAccess_attnStep s _⟩
  | readStatusByte0 => exact ⟨_, rfl, readStatus_attnStep s 0⟩
  | readStatusByte1 => exact ⟨_, rfl, readStatus_attnStep s 1⟩
  | readStatusByte31 => exact ⟨_, rfl, readStatus_attnStep s 31⟩
  | jobProducerIndexWrite byte => exact ⟨_, rfl, writeRequest_attnStep s 0 byte⟩
  | slipConsumerIndexWrite byte => exact ⟨_, rfl, writeRequest_attnStep s 1 byte⟩
  | feedProducerIndexWrite byte => exact ⟨_, rfl, writeRequest_attnStep s 2 byte⟩
  | scanReleaseIndexWrite byte => exact ⟨_, rfl, writeRequest_attnStep s 3 byte⟩
  | commandArgumentWrite byte => exact ⟨_, rfl, writeRequest_attnStep s 4 byte⟩
  | clear => exact ⟨_, rfl, writeRequest_attnStep s 5 0x01⟩
  | abortSend => exact ⟨_, rfl, writeRequest_attnStep s 5 0x02⟩
  | abortScan => exact ⟨_, rfl, writeRequest_attnStep s 5 0x03⟩
  | abortAll => exact ⟨_, rfl, writeRequest_attnStep s 5 0x04⟩
  | spin => exact ⟨_, rfl, writeRequest_attnStep s 5 0x05⟩
  | releaseSpin => exact ⟨_, rfl, writeRequest_attnStep s 5 0x06⟩
  | unknownCommand code => exact ⟨_, rfl, writeRequest_attnStep s 5 code⟩
  | transferComplete => exact ⟨_, rfl, completeTransfer_attnStep s⟩
  | jobFetchStart =>
    exact ⟨_, rfl, .event fun due => .of_work (fun _ => fetchReady_placed due) (by simp) (by simp) (by simp)⟩
  | dispatch pins =>
    refine ⟨_, rfl, ((setPins_attnStep s.part pins).trans ?_).trans (.close _ _)⟩
    exact .of_keeps (by simp) (by simp) dispatchPending_attends
      fun _ rest => by rwa [dispatchPending_of_atRest rest]
  | slipWriteStart =>
    exact ⟨_, rfl, .event fun due => .of_work (fun _ => slipReady_placed due) (by simp) (by simp) (by simp)⟩
  | statusWriteStart =>
    exact ⟨_, rfl, .event fun due => .of_work (fun _ => statusReady_placed due) (by simp) (by simp) (by simp)⟩
  | statusSpacingPassed =>
    exact ⟨_, rfl, .of_keeps rfl id (fun _ attends => attends) fun _ rest => by
      obtain ⟨write, window, pending, attn, -⟩ := StatusWriter.atRest_iff.mp (status_atRest rest)
      exact onStatus_atRest rest (StatusWriter.atRest_iff.mpr ⟨write, window, pending, attn, rfl⟩)⟩
  | readWindowExpiry =>
    exact ⟨_, rfl, .choice (fun due => .of_work (fun rest => by simp [window_of_atRest rest] at due)
      (by simp) (by simp) (by simp)) fun _ => .refl _⟩
  | jobTimerExpiry pins =>
    exact ⟨_, rfl, (setPins_attnStep s.part pins).trans
      (.choice (fun _ => .refl _) fun _ => expireJobTimer_attnStep _)⟩
  | imageByteReceived byte =>
    exact ⟨_, rfl, .event fun ⟨loading, _⟩ => takeImageByte_attnStep loading byte⟩
  | tickCounterWrap =>
    exact ⟨_, rfl, .choice (fun _ => .refl _) fun _ => .of_status (by simp) (by simp) (by simp) wrapTick_atRest⟩
  | indexCapture tick pins servoFirst =>
    have advanced := (setPins_attnStep s.part pins).trans (advanceTick_attnStep _ tick)
    exact ⟨_, rfl, .choice (fun _ => setPins_attnStep s.part pins) fun _ =>
      (advanced.trans (.choice (fun due => .of_work (fun _ => captures_placed due) (by simp) (by simp)
        fun hm attends => capture_attends hm attends tick servoFirst) fun _ => .refl _)).trans (.close _ _)⟩
  | pwmPeriodStart =>
    exact ⟨_, rfl, .choice (fun _ => .refl _) fun _ => .of_status (by simp) (by simp) (by simp) startPwm_atRest⟩
  | lockTimeout =>
    exact ⟨_, rfl, .event fun due => .of_work (fun rest => by simp [lockDue_of_atRest rest] at due)
      (by simp) (by simp) takeLockTimeout_attends⟩
  | stallTimeExpiry =>
    exact ⟨_, rfl, .event fun due => .of_work (fun rest => by simp [stallDue_of_atRest rest] at due)
      (by simp) (by simp) takeStallTime_attends⟩
  | slotStart =>
    exact ⟨_, rfl, .eventAt fun offset due => .of_work (fun rest => by simp [startHeld_of_atRest rest] at due)
      (by simp) (by simp) (by simp)⟩
  | slotCentre =>
    exact ⟨_, rfl, .eventAt fun offset due => .of_work (fun rest => by simp [centreHeld_of_atRest rest] at due)
      (by simp) (by simp) fun hm attends => handCentre_attends hm attends offset⟩
  | lineTimerExpiry =>
    exact ⟨_, rfl, .event fun due => .of_work (fun rest => by simp [timer_of_atRest rest] at due)
      (by simp) (by simp) fun hm attends => by simp [expireTimer, hm, attends]⟩
  | lineTimerSlotStart =>
    exact ⟨_, rfl, .eventAt fun offset due => .of_work (fun rest => by simp [timerStartHeld_of_atRest rest] at due)
      (by simp) (by simp) (by simp)⟩
  | conversionComplete value =>
    have sampled : AttnStep s.part { s.part with phc := value } := .of_status rfl rfl rfl id
    have taken : AttnStep { s.part with phc := value } (takeConversion value { s.part with phc := value }) :=
      .of_keeps (by simp) (by simp) (fun hm attends => takeConversion_attends hm attends value)
        fun _ rest => by rwa [takeConversion_of_atRest rest]
    exact ⟨_, rfl, (sampled.trans taken).trans (.close _ _)⟩
  | forwardStep pins =>
    exact ⟨_, rfl, (setPins_attnStep s.part pins).trans
      (.choice (fun due => .of_work (fun rest => by simp [stepsOwed_of_atRest (p := s.part) rest] at due)
        (by simp) (by simp) (by simp)) fun _ => .refl _)⟩
  | homingStep pins =>
    exact ⟨_, rfl, (setPins_attnStep s.part pins).trans
      (.choice (fun due => .of_work (fun rest => by simp [homing_of_atRest (p := s.part) rest] at due)
        (by simp) (by simp) (by simp)) fun _ => .refl _)⟩
  | homeActive =>
    exact ⟨_, rfl, (setPins_attnStep s.part _).trans
      (.choice (fun due => (AttnStep.of_work (fun _ => (Bool.and_eq_true_iff.mp due).1) (by simp) (by simp)
        (by simp)).trans (.close _ _)) fun _ => .refl _)⟩
  | homeTimeout =>
    exact ⟨_, rfl, .event fun due => .of_work (fun rest => by simp [homeDue_of_atRest rest] at due)
      (by simp) (by simp) failHoming_attends⟩
  | lampSettleExpiry =>
    exact ⟨_, rfl, .event fun due => .of_work (fun rest => by simp [lampDue_of_atRest rest] at due)
      (by simp) (by simp) (by simp)⟩
  | toneSample =>
    exact ⟨_, rfl, .choice (fun _ => .refl _) fun _ => (onClock_attnStep s.part _).trans
      (.of_status (by simp) (by simp) (by simp) sampleTone_atRest)⟩
  | readyTimeout =>
    exact ⟨_, rfl, .event fun due => .of_work (fun rest => by simp [readyDue_of_atRest rest] at due)
      (by simp) (by simp) fun hm attends => by simp [hm, attends]⟩
  | receiptTimeout =>
    exact ⟨_, rfl, .event fun due => .of_work (fun rest => by simp [receiptDue_of_atRest rest] at due)
      (by simp) (by simp) fun hm attends => by simp [hm, attends]⟩
  | lineLost =>
    exact ⟨_, rfl, .event fun due => .of_work (fun rest => by simp [lossDue_of_atRest rest] at due)
      (by simp) (by simp) fun hm attends => by simp [hm, attends]⟩
  | rxcCapture micro =>
    exact ⟨_, rfl, .choice (fun _ => .refl _) fun _ => ((onClock_attnStep s.part _).trans
      (.choice (fun placed => .of_work (fun _ => placed) (by simp) (by simp)
        fun hm attends => takeEdge_attends hm attends micro) fun _ => .refl _)).trans (.close _ _)⟩
  | detectorSilence =>
    exact ⟨_, rfl, .choice (fun due => .of_work (fun rest => by simp [detector_of_atRest rest] at due)
      (by simp) (by simp) (by simp)) fun _ => .refl _⟩
  | resetRelease =>
    exact ⟨_, rfl, .choice (fun _ => .of_status (by simp) (by simp) (by simp) id) fun _ => .refl _⟩

theorem attnStep_of_exec {c : Instr} {s t : State} (h : exec c s = .next t) : AttnStep s.part t.part := by
  obtain ⟨u, answered, kept⟩ := exec_attnStep c s
  obtain rfl : u = t := Host.Outcome.next.inj (answered.symm.trans h)
  exact kept

theorem attnStep_of_step {s t : State} (h : step s = .next t) : AttnStep s.part t.part := by
  unfold step at h
  split at h
  case h_1 c queue _ => exact attnStep_of_exec (s := { s with pending := queue }) h
  case h_2 =>
    split at h
    case h_1 => exact attnStep_of_exec h
    case h_2 =>
      obtain rfl := Host.Outcome.next.inj h
      exact idleBeat_attnStep s.part

theorem causes_of_restsUnplaced {p : Part} (rests : p.restsUnplaced = true) (unplaced : p.placed = false) :
    p.status.pending = 0 ∧ p.status.attn = false := by
  have rest : p.atRest = true := by simpa [Part.restsUnplaced, unplaced] using rests
  obtain ⟨-, -, pending, attn, -⟩ := StatusWriter.atRest_iff.mp (status_atRest rest)
  exact ⟨pending, attn⟩

/-- Settles O5: every operation of a step sets ATTN with the pending set or leaves both, and one that acts on a part at
rest leaves it at rest or puts a placement in force. -/
theorem attnFollowsPendingCausesAtEveryStep : Obligations.AttnFollowsPendingCausesAtEveryStep := by
  unfold Obligations.AttnFollowsPendingCausesAtEveryStep
  refine ⟨fun s t follows h => (attnStep_of_step h).attn follows, fun s t rests h => ?_⟩
  have rests_after := (attnStep_of_step h).rests rests
  exact ⟨rests_after, causes_of_restsUnplaced rests_after⟩

end Sys2Proof.Machine
end

section
/-! The step and its commands: the queue gives its front command, every command answers, and the part after RESET meets
every invariant. -/

namespace Sys2Proof.Machine

/-- Settles O1: on a queue that is not empty the step is its first branch. -/
theorem stepRunsTheFrontCommand : Obligations.StepRunsTheFrontCommand := by
  unfold Obligations.StepRunsTheFrontCommand
  intro c rest s
  rfl

@[simp] theorem resetMachine_pending (s : State) : (resetMachine s).pending = s.pending := by
  simp only [resetMachine]
  split <;> simp

/-- Settles O2: each arm of `exec` answers, and all but RESET and the host port act on the part alone. -/
theorem everyCommandAnswersAndKeepsTheQueue : Obligations.EveryCommandAnswersAndKeepsTheQueue := by
  unfold Obligations.EveryCommandAnswersAndKeepsTheQueue
  intro c s
  cases c <;> refine ⟨_, rfl, ?_⟩ <;> simp

/-- Settles O3: the part at its RESET values holds no job, no access and no demand. -/
theorem resetStateMeetsTheInvariants : Obligations.ResetStateMeetsTheInvariants := by
  unfold Obligations.ResetStateMeetsTheInvariants
  and_intros <;> decide

end Sys2Proof.Machine
end

section
/-! Arithmetic of pixels, tones, bands and the loop: the pixel of a mean (R108), the increment of a level (R112), the
answer bands (R22, R142) and the PI step (R61). -/

namespace Sys2Proof.Machine

/-! ## The pixel of a mean (R107, R108) -/

section Pixel
variable {w b m : Nat}

theorem normalizedPixel_of_le_black (h : m ≤ b) : normalizedPixel w b m = 0 := if_pos h

theorem normalizedPixel_of_white_le (hbw : b < w) (h : w ≤ m) : normalizedPixel w b m = 255 := by
  rw [normalizedPixel, if_neg (by omega), if_pos (by omega)]

theorem normalizedPixel_between (hb : b < m) (hw : m < w) :
    normalizedPixel w b m = (510 * (m - b) + (w - b)) / (2 * (w - b)) := by
  rw [normalizedPixel, if_neg (by omega), if_neg (by omega)]

/-- Half a divisor is added before the division, so the quotient is the ratio rounded with halves up. -/
theorem normalizedPixel_rounds (hb : b < m) (hw : m < w) :
    2 * (w - b) * normalizedPixel w b m ≤ 510 * (m - b) + (w - b) ∧
      510 * (m - b) + (w - b) < 2 * (w - b) * (normalizedPixel w b m + 1) := by
  rw [normalizedPixel_between hb hw]
  exact ⟨Nat.mul_div_le _ _, Nat.lt_mul_div_succ _ (by omega)⟩

theorem normalizedPixel_le (hbw : b < w) : normalizedPixel w b m ≤ 255 := by
  rcases Nat.lt_or_ge b m with hb | hb
  · rcases Nat.lt_or_ge m w with hw | hw
    · rw [normalizedPixel_between hb hw, ← Nat.lt_succ_iff, Nat.div_lt_iff_lt_mul (by omega)]
      omega
    · exact Nat.le_of_eq (normalizedPixel_of_white_le hbw hw)
  · exact Nat.le_trans (Nat.le_of_eq (normalizedPixel_of_le_black hb)) (Nat.zero_le _)

end Pixel

/-- Settles O12: the three branches of the pixel, and the rounding of its quotient. -/
theorem normalizedPixelIsTheRoundedRatio : Obligations.NormalizedPixelIsTheRoundedRatio := by
  unfold Obligations.NormalizedPixelIsTheRoundedRatio
  exact ⟨fun _ _ _ _ _ => rfl, fun w b m hbw =>
    ⟨normalizedPixel_le hbw, normalizedPixel_of_le_black, normalizedPixel_of_white_le hbw, normalizedPixel_rounds⟩⟩

/-! ## The increment of a level (R112) -/

/-- Hertz times 255 between the two tones, `level` 255ths of the way to white. -/
def toneSum (black white level : Nat) : Int := (black : Int) * 255 + ((white : Int) - black) * level

theorem toneSum_between {black white level : Nat} (h : level ≤ 255) :
    min (black * 255 : Int) (white * 255) ≤ toneSum black white level ∧
      toneSum black white level ≤ max (black * 255 : Int) (white * 255) := by
  rw [toneSum]
  rcases Nat.le_total black white with rising | falling
  · have part_nonneg : 0 ≤ ((white : Int) - black) * level := Int.mul_nonneg (by omega) (by omega)
    have part_le : ((white : Int) - black) * level ≤ ((white : Int) - black) * 255 :=
      Int.mul_le_mul_of_nonneg_left (by omega) (by omega)
    omega
  · have part_nonpos : ((white : Int) - black) * level ≤ 0 :=
      Int.mul_nonpos_of_nonpos_of_nonneg (by omega) (by omega)
    have part_ge : ((white : Int) - black) * 255 ≤ ((white : Int) - black) * level :=
      Int.mul_le_mul_of_nonpos_left (by omega) (by omega)
    omega

@[simp] theorem toneSum_black (black white : Nat) : toneSum black white 0 = black * 255 := by
  simp [toneSum]

@[simp] theorem toneSum_white (black white : Nat) : toneSum black white 255 = white * 255 := by
  simp only [toneSum]
  omega

/-- `toNat` cuts nothing off: the sum lies between two tones, and neither is negative. -/
theorem levelIncrement_eq {black white level : Nat} (h : level ≤ 255) :
    (levelIncrement black white level : Int) = (toneSum black white level * 65536 + 1020000) / 2040000 := by
  have between := toneSum_between (black := black) (white := white) h
  have nonneg : 0 ≤ (toneSum black white level * 65536 + 1020000) / 2040000 := by omega
  exact Int.toNat_of_nonneg nonneg

/-- Settles O14: the quotient grows with its sum, which lies between the two tones. -/
theorem incrementsLieBetweenTheTones : Obligations.IncrementsLieBetweenTheTones := by
  unfold Obligations.IncrementsLieBetweenTheTones
  intro black white level black_low black_high white_low white_high level_le
  have between := toneSum_between (black := black) (white := white) level_le
  have eq := levelIncrement_eq (black := black) (white := white) level_le
  have eq_black := levelIncrement_eq (black := black) (white := white) (Nat.zero_le 255)
  have eq_white := levelIncrement_eq (black := black) (white := white) (Nat.le_refl 255)
  rw [toneSum_black] at eq_black
  rw [toneSum_white] at eq_white
  exact ⟨eq, by omega, by omega, by omega, by omega⟩

/-! ## Answer bands (R22, R142) -/

theorem Band.holds_iff {b : Band} {p : Nat} : b.holds p = true ↔ b.low ≤ p ∧ p ≤ b.high := by
  simp [Band.holds]

theorem Band.usable_iff {b : Band} : b.usable = true ↔ b.low ≤ b.high ∧ b.high < 8000 := by
  simp only [Band.usable, Bool.and_eq_true, decide_eq_true_eq]
  rfl

/-- Bands that lie apart hold no cycle in common. -/
theorem Band.holds_of_apart {a b : Band} {p : Nat} (apart : a.apart b = true) (h : a.holds p = true) :
    b.holds p = false := by
  rw [Band.holds_iff] at h
  simp only [Band.apart, Bool.or_eq_true, decide_eq_true_eq] at apart
  rw [← Bool.not_eq_true, Band.holds_iff]
  omega

/-- What the relation check says of the bands (R22). -/
theorem Settings.bands_of_relationsGood {cfg : Settings} (h : cfg.relationsGood = true) :
    (cfg.ready.band.usable = true ∧ cfg.halt.band.usable = true ∧ cfg.receipt.band.usable = true) ∧
      cfg.ready.band.apart cfg.halt.band = true ∧ cfg.ready.band.apart cfg.receipt.band = true ∧
      cfg.halt.band.apart cfg.receipt.band = true := by
  simp only [Settings.relationsGood, Bool.and_eq_true] at h
  obtain ⟨⟨⟨⟨⟨⟨⟨⟨-, ready⟩, halt⟩, receipt⟩, ready_halt⟩, ready_receipt⟩, halt_receipt⟩, -⟩, -⟩ := h
  exact ⟨⟨ready, halt, receipt⟩, ready_halt, ready_receipt, halt_receipt⟩

/-- Settles O15: the relation check has each band usable and each pair apart. -/
theorem acceptedBandsNeverShareACycle : Obligations.AcceptedBandsNeverShareACycle := by
  unfold Obligations.AcceptedBandsNeverShareACycle
  intro cfg good
  obtain ⟨⟨ready, halt, receipt⟩, ready_halt, ready_receipt, halt_receipt⟩ := Settings.bands_of_relationsGood good
  refine ⟨?usable, fun p => ⟨fun h => ⟨Band.holds_of_apart ready_halt h, Band.holds_of_apart ready_receipt h⟩,
    Band.holds_of_apart halt_receipt⟩⟩
  simpa [← Band.usable_iff] using ⟨ready, halt, receipt⟩

/-! ## The PI step (R61) -/

theorem clampInt_bounds {lo hi : Int} (h : lo ≤ hi) (x : Int) : lo ≤ clampInt lo hi x ∧ clampInt lo hi x ≤ hi := by
  rw [clampInt]
  omega

theorem clampInt_of_mem {lo hi x : Int} (hlo : lo ≤ x) (hhi : x ≤ hi) : clampInt lo hi x = x := by
  rw [clampInt]
  omega

/-- Settles O16: each of the three values of the step is a clamp of its sum. -/
theorem piStepStaysInItsClamps : Obligations.PiStepStaysInItsClamps := by
  unfold Obligations.PiStepStaysInItsClamps
  refine ⟨rfl, fun _ => rfl, fun cfg target period integral => ?_⟩
  obtain ⟨error_low, error_high⟩ := clampInt_bounds (lo := -8191) (hi := 8191) (by decide)
    ((period : Int) - (Config.nominalPeriod target : Int))
  obtain ⟨integral_low, integral_high⟩ := clampInt_bounds (lo := -32768) (hi := 32767) (by decide)
    (integral + (piStep cfg target integral period).error)
  refine ⟨error_low, error_high, integral_low, integral_high, ?duty_le, clampInt_of_mem, clampInt_of_mem, ?duty_eq⟩
  case duty_le => exact Int.toNat_le.mpr (clampInt_bounds (by decide) _).2
  case duty_eq =>
    intro nonneg le
    calc ((piStep cfg target integral period).duty : Int) = clampInt 0 1024 _ :=
          Int.toNat_of_nonneg (clampInt_bounds (by decide) _).1
      _ = _ := clampInt_of_mem nonneg le

end Sys2Proof.Machine
end

section
/-! The job record (R31, Table 12.3-1): when it is valid, and what the dispatcher keeps of it. -/

namespace Sys2Proof.Machine

theorem JobKind.ofByte_eq (b : Byte) : JobKind.ofByte b =
    if b.toNat = 1 then .live else if b.toNat = 2 then .store else if b.toNat = 3 then .relay
    else .other b.toNat := by
  unfold JobKind.ofByte
  split <;> simp_all

theorem JobKind.ofByte_isOther (b : Byte) :
    (JobKind.ofByte b).isOther = true ↔ b.toNat ≠ 1 ∧ b.toNat ≠ 2 ∧ b.toNat ≠ 3 := by
  unfold JobKind.ofByte
  split <;> simp_all [JobKind.isOther]

theorem JobKind.ofByte_eq_live (b : Byte) : JobKind.ofByte b = .live ↔ b.toNat = 1 := by
  unfold JobKind.ofByte
  split <;> simp_all

theorem JobKind.ofByte_eq_store (b : Byte) : JobKind.ofByte b = .store ↔ b.toNat = 2 := by
  unfold JobKind.ofByte
  split <;> simp_all

theorem JobKind.ofByte_eq_relay (b : Byte) : JobKind.ofByte b = .relay ↔ b.toNat = 3 := by
  unfold JobKind.ofByte
  split <;> simp_all

/-- A record is valid exactly when it passes every test of R31's table. -/
theorem firstBadField_eq_none (s : JobSpec) : firstBadField s = none ↔
    s.kind.isOther = false ∧ s.speed ≤ 2 ∧ 1 ≤ s.lines ∧ s.lines ≤ 4095 ∧ s.curve ≤ 3 ∧ s.startRevs ≤ 63 ∧
      s.phasingRevs ≤ 31 ∧ s.gain ≤ 16 := by
  unfold firstBadField
  split
  · simp_all
  · (repeat' split) <;> simp_all <;> omega

theorem takenRecord_badField (cfg : Settings) (bytes : List Byte) (cancel : Bool) :
    (takenRecord cfg bytes cancel).badField = firstBadField (rawSpec bytes) := by
  simp only [takenRecord]
  split <;> simp_all

theorem takenRecord_marks (cfg : Settings) (bytes : List Byte) (cancel : Bool) :
    (takenRecord cfg bytes cancel).toCancel = cancel ∧ (takenRecord cfg bytes cancel).held = false := by
  simp only [takenRecord]
  split <;> simp

/-- Tag, kind, speed code and lines requested are kept as read, in a valid record and in a bad one. -/
theorem takenRecord_asRead (cfg : Settings) (bytes : List Byte) (cancel : Bool) :
    (takenRecord cfg bytes cancel).spec.tag = (rawSpec bytes).tag ∧
      (takenRecord cfg bytes cancel).spec.kind = (rawSpec bytes).kind ∧
      (takenRecord cfg bytes cancel).spec.speed = (rawSpec bytes).speed ∧
      (takenRecord cfg bytes cancel).spec.lines = (rawSpec bytes).lines := by
  simp only [takenRecord]
  split <;> simp [resolveSpec]

theorem takenRecord_of_valid {cfg : Settings} {bytes : List Byte} {cancel : Bool}
    (valid : firstBadField (rawSpec bytes) = none) :
    (takenRecord cfg bytes cancel).spec = resolveSpec cfg (rawSpec bytes) := by
  simp [takenRecord, valid]

/-- Settles O17: the first bad field by the order of the table, and the resolved record by its fields. -/
theorem jobRecordIsValidExactlyInRange : Obligations.JobRecordIsValidExactlyInRange := by
  unfold Obligations.JobRecordIsValidExactlyInRange
  intro cfg bytes cancel b lines flag r
  obtain ⟨toCancel, held⟩ := takenRecord_marks cfg bytes cancel
  obtain ⟨tag, kind, speed, lines_eq⟩ := takenRecord_asRead cfg bytes cancel
  have badField : r.badField = firstBadField (rawSpec bytes) := takenRecord_badField cfg bytes cancel
  have not_other : (rawSpec bytes).kind.isOther = false ↔ (b 2 = 1 ∨ b 2 = 2 ∨ b 2 = 3) := by
    rw [← Bool.not_eq_true, rawSpec, JobKind.ofByte_isOther]
    simp only [b]
    omega
  refine ⟨?valid, ?first, toCancel, held, ?tag, kind.trans (JobKind.ofByte_eq _), speed, lines_eq, ?resolved⟩
  case valid =>
    rw [badField, firstBadField_eq_none, not_other]
    rfl
  case first =>
    rw [badField, firstBadField]
    congr 1
    exact propext (JobKind.ofByte_isOther _)
  case tag =>
    rw [tag]
    have low := (bytes.getD 0 0).isLt
    have high := (bytes.getD 1 0).isLt
    simp only [rawSpec, word16, BitVec.toNat_ofNat, b]
    omega
  case resolved =>
    intro valid
    rw [badField] at valid
    have known := not_other.mp ((firstBadField_eq_none _).mp valid).1
    have spec : r.spec = resolveSpec cfg (rawSpec bytes) := takenRecord_of_valid valid
    rw [spec]
    refine ⟨rfl, rfl, rfl, rfl, ?_⟩
    simp only [resolveSpec, rawSpec, JobKind.ofByte_eq_live, JobKind.ofByte_eq_store, JobKind.ofByte_eq_relay,
      Bool.and_eq_true, decide_eq_true_eq, flag, b] at known ⊢
    refine ⟨?_, ?_, trivial, ?_, ?_⟩ <;> refine and_congr_right fun _ => ?_ <;> omega

end Sys2Proof.Machine
end

section
/-! What the work of drum, lines and jobs leaves of the memory path and of the dispatcher: `Part.standing`. It may
withdraw the transfer on the port, change the regions guarded for the blocks, and change the tallies, first causes and
finished sides of the running jobs; nothing else of the two blocks. -/

namespace Sys2Proof.Machine

/-! ## Outlines -/

/-- Whose transfer holds the port, be it withdrawn or not. -/
def Port.outline : Port → Port
  | .part t => .part { t with withdrawn := false }
  | .host => .host
  | .idle => .idle

/-- The memory path but for a withdrawal and the regions guarded for the blocks' own work. -/
def MemoryPath.outline (m : MemoryPath) : MemoryPath :=
  { m with port := m.port.outline, guards := { GuardSet.empty with statusBlock := m.guards.statusBlock } }

/-- What stays of a job while it runs: its record and which of its sides are active. -/
def Job.outline (j : Job) : JobSpec × Bool × Bool := (j.spec, j.scannerSide.active, j.senderSide.active)

/-- The dispatcher but for the tallies, first causes and finished sides of its jobs. -/
def Dispatcher.outline (d : Dispatcher) :
    Dispatcher × Option (JobSpec × Bool × Bool) × Option (JobSpec × Bool × Bool) :=
  ({ d with scanJob := none, relayJob := none }, d.scanJob.map Job.outline, d.relayJob.map Job.outline)

/-- The two outlines together. -/
def Part.standing (p : Part) := (p.path.outline, p.disp.outline)

theorem Port.inside_of_outline {a b : Port} (h : a.outline = b.outline) : a.inside = b.inside := by
  cases a <;> cases b <;> simp_all [Port.outline, Port.inside]

theorem Part.path_of_standing {p q : Part} (h : q.standing = p.standing) : q.path.outline = p.path.outline :=
  congrArg Prod.fst h

theorem Part.disp_of_standing {p q : Part} (h : q.standing = p.standing) : q.disp.outline = p.disp.outline :=
  congrArg Prod.snd h

theorem Part.standing_congr {p q : Part} (path : q.path = p.path) (disp : q.disp = p.disp) :
    q.standing = p.standing := by
  rw [Part.standing, Part.standing, path, disp]

/-- What an outline of the dispatcher holds. -/
theorem Dispatcher.outline_inj {d e : Dispatcher} (h : e.outline = d.outline) :
    e.fetch = d.fetch ∧ e.pendingJob = d.pendingJob ∧ e.slipQueue = d.slipQueue ∧
      e.scanJob.isSome = d.scanJob.isSome ∧ e.relayJob.isSome = d.relayJob.isSome := by
  obtain ⟨main, scan, relay⟩ : _ ∧ _ ∧ _ := by simpa only [Dispatcher.outline, Prod.mk.injEq] using h
  have scan_isSome := congrArg Option.isSome scan
  have relay_isSome := congrArg Option.isSome relay
  simp only [Dispatcher.mk.injEq, Option.isSome_map] at main scan_isSome relay_isSome
  simp [main, scan_isSome, relay_isSome]

theorem standing_ite {p q : Part} {c : Prop} {_ : Decidable c} :
    (if c then p else q).standing = if c then p.standing else q.standing :=
  apply_ite Part.standing _ _ _

/-! ## Updates of one block -/

section updates
variable (p : Part)

@[simp] theorem onClock_standing (f : Timebase → Timebase) : (p.onClock f).standing = p.standing := rfl
@[simp] theorem onLoader_standing (f : Loader → Loader) : (p.onLoader f).standing = p.standing := rfl
@[simp] theorem onServo_standing (f : Servo → Servo) : (p.onServo f).standing = p.standing := rfl
@[simp] theorem onAngle_standing (f : AngleClock → AngleClock) : (p.onAngle f).standing = p.standing := rfl
@[simp] theorem onTimer_standing (f : LineTimer → LineTimer) : (p.onTimer f).standing = p.standing := rfl
@[simp] theorem onScanner_standing (f : Scanner → Scanner) : (p.onScanner f).standing = p.standing := rfl
@[simp] theorem onSender_standing (f : Sender → Sender) : (p.onSender f).standing = p.standing := rfl
@[simp] theorem onDetector_standing (f : Detector → Detector) : (p.onDetector f).standing = p.standing := rfl
@[simp] theorem onSlips_standing (f : SlipWriter → SlipWriter) : (p.onSlips f).standing = p.standing := rfl
@[simp] theorem onStatus_standing (f : StatusWriter → StatusWriter) : (p.onStatus f).standing = p.standing := rfl
@[simp] theorem onDemands_standing (f : Demands → Demands) : (p.onDemands f).standing = p.standing := rfl
@[simp] theorem guardFill_standing (r : Option Region) : (p.guardFill r).standing = p.standing := rfl
@[simp] theorem guardSending_standing (r : Option Region) : (p.guardSending r).standing = p.standing := rfl
@[simp] theorem raise_standing (c : Attention) : (p.raise c).standing = p.standing := rfl

@[simp] theorem withdraw_standing (r : Requester) : (p.withdraw r).standing = p.standing := by
  simp only [Part.standing, Part.withdraw, Part.onPath_path, Part.onPath_disp]
  cases port : p.path.port with
  | part t =>
    simp only [MemoryPath.outline]
    split <;> simp [port, Port.outline]
  | idle => rfl
  | host => rfl

theorem onJob_standing {f : Job → Job} (kept : ∀ j, (f j).outline = j.outline) (slot : JobSlot) :
    (p.onJob slot f).standing = p.standing := by
  have composed : Job.outline ∘ f = Job.outline := funext kept
  cases slot <;> simp [Part.standing, Part.onJob, Dispatcher.outline, composed]

@[simp] theorem onTally_standing (slot : JobSlot) (f : Tally → Tally) : (p.onTally slot f).standing = p.standing :=
  onJob_standing p (f := fun j => { j with tally := f j.tally }) (fun _ => rfl) slot

@[simp] theorem onSenderTally_standing (f : Tally → Tally) : (p.onSenderTally f).standing = p.standing := by
  unfold Part.onSenderTally
  split <;> simp

@[simp] theorem setReferences_standing (w b : Nat) : (setReferences w b p).standing = p.standing := by
  simp [setReferences]

@[simp] theorem setDrum_standing (d : DrumState) : (setDrum d p).standing = p.standing :=
  Part.standing_congr (by simp) (by simp)

@[simp] theorem switchToTimer_standing (j : Job) (c : Cause) : (switchToTimer j c p).standing = p.standing :=
  Part.standing_congr (by simp) (by simp)

/-! ## Sides and offers -/

@[simp] theorem releaseHand_standing : (releaseHand p).standing = p.standing := by
  unfold releaseHand
  split
  · rfl
  · split <;> simp

@[simp] theorem enterStop_standing : (enterStop p).standing = p.standing := by
  simp [enterStop]

@[simp] theorem markSenderDone_standing : (markSenderDone p).standing = p.standing := by
  have kept (slot : JobSlot) := onJob_standing p
    (f := fun j => { j with senderSide := { j.senderSide with finished := true } }) (fun _ => rfl) slot
  unfold markSenderDone
  split
  · exact kept _
  · rfl

@[simp] theorem senderIdle_standing : (senderIdle p).standing = p.standing := by
  simp [senderIdle, stopTimer]

@[simp] theorem leaveScan_standing : (leaveScan p).standing = p.standing := by
  simp [leaveScan]

@[simp] theorem offerStored_outline (j : Job) : (offerStored j).outline = j.outline := by
  unfold offerStored
  split <;> rfl

@[simp] theorem scannerIdle_standing : (scannerIdle p).standing = p.standing := by
  unfold scannerIdle
  rw [onJob_standing _ fun j => by rw [offerStored_outline]; rfl]
  rfl

@[simp] theorem enterReturn_standing : (enterReturn p).standing = p.standing := by
  simp only [enterReturn, standing_ite]
  (repeat' split) <;> simp [setNotHome, returnFound, startHoming]

@[simp] theorem windDownScanner_standing : (windDownScanner p).standing = p.standing := by
  unfold windDownScanner
  split <;> simp

@[simp] theorem windDownSender_standing (cause : Cause) : (windDownSender cause p).standing = p.standing := by
  unfold windDownSender
  split <;> simp [standing_ite]

@[simp] theorem windDown_standing (slot : JobSlot) (cause : Cause) : (windDown slot cause p).standing = p.standing := by
  unfold windDown
  split <;> simp [standing_ite]

theorem Job.setFirst_outline (j : Job) (c : Cause) (d : Detail) : (j.setFirst c d).outline = j.outline := rfl

@[simp] theorem offer_standing (slot : JobSlot) (c : Cause) (named : Named) :
    (offer slot c named p).standing = p.standing := by
  unfold offer
  split
  · rfl
  · simp [standing_ite, placeEvent, onJob_standing _ fun j => Job.setFirst_outline j _ _]

@[simp] theorem offerSender_standing (c : Cause) : (offerSender c p).standing = p.standing := by
  unfold offerSender
  split <;> simp

@[simp] theorem abortJob_standing (slot : JobSlot) (named : Named) : (abortJob slot named p).standing = p.standing := by
  unfold abortJob
  split <;> simp [standing_ite]

/-! ## The scanner's part of a line event -/

@[simp] theorem countScanStall_standing : (countScanStall p).standing = p.standing := by
  simp only [countScanStall]
  split <;> simp

@[simp] theorem commitLine_standing (j : Job) (l : OpenLine) : (commitLine j l p).standing = p.standing := by
  simp [commitLine, standing_ite]

@[simp] theorem damageLine_standing : (damageLine p).standing = p.standing := by
  simp [damageLine]

@[simp] theorem closeLine_standing (whole : Bool) (j : Job) : (closeLine whole j p).standing = p.standing := by
  unfold closeLine
  split <;> simp [standing_ite]

@[simp] theorem endScan_standing (j : Job) : (endScan j p).standing = p.standing := by
  simp [endScan, reportDone, standing_ite]

@[simp] theorem testScanEnd_standing (j : Job) : (testScanEnd j p).standing = p.standing := by
  simp [testScanEnd, setShort, standing_ite]

@[simp] theorem countStoreEvent_standing (j : Job) : (countStoreEvent j p).standing = p.standing := by
  simp [countStoreEvent, standing_ite]

@[simp] theorem claimSlot_standing (j : Job) : (claimSlot j p).standing = p.standing := by
  simp [claimSlot, standing_ite]

@[simp] theorem enterScan_standing (j : Job) : (enterScan j p).standing = p.standing := by
  simp [enterScan, setShort, standing_ite]

@[simp] theorem scannerClose_standing (whole : Bool) : (scannerClose whole p).standing = p.standing := by
  unfold scannerClose
  split <;> simp [standing_ite]

@[simp] theorem scannerClaim_standing : (scannerClaim p).standing = p.standing := by
  unfold scannerClaim
  split <;> simp [standing_ite]

@[simp] theorem storeEntry_standing (locked : Bool) : (storeEntry locked p).standing = p.standing := by
  unfold storeEntry
  split <;> simp [standing_ite]

/-! ## The sender's part of a line event -/

@[simp] theorem countSenderLine_standing : (countSenderLine p).standing = p.standing := by
  simp [countSenderLine]

@[simp] theorem callScanner_standing (n : Nat) (j : Job) : (callScanner n j p).standing = p.standing := by
  simp [callScanner, standing_ite]

@[simp] theorem enterStart_standing (j : Job) : (enterStart j p).standing = p.standing := by
  simp [enterStart, standing_ite]

@[simp] theorem takeLine_standing (j : Job) : (takeLine j p).standing = p.standing := by
  simp [takeLine]

@[simp] theorem judgeStall_standing (j : Job) : (judgeStall j p).standing = p.standing := by
  simp [judgeStall, standing_ite]

@[simp] theorem repeatLine_standing (j : Job) : (repeatLine j p).standing = p.standing := by
  simp [repeatLine, standing_ite]

@[simp] theorem endImage_standing (wasLast : Bool) (j : Job) : (endImage wasLast j p).standing = p.standing := by
  simp [endImage, setShort, standing_ite]

@[simp] theorem imageLine_standing (before : Nat) (wasLast : Bool) (j : Job) :
    (imageLine before wasLast j p).standing = p.standing := by
  simp [imageLine, standing_ite]

@[simp] theorem phasingLine_standing : (phasingLine p).standing = p.standing := by
  simp [phasingLine]

@[simp] theorem endStop_standing (j : Job) : (endStop j p).standing = p.standing := by
  simp [endStop, standing_ite]

@[simp] theorem stopLine_standing (j : Job) : (stopLine j p).standing = p.standing := by
  simp only [stopLine]
  split <;> simp

@[simp] theorem toneLine_standing (before : Nat) (wasLast : Bool) (n : Nat) (j : Job) :
    (toneLine before wasLast n j p).standing = p.standing := by
  unfold toneLine
  split <;> simp [standing_ite]

@[simp] theorem senderLine_standing (before : Nat) (wasLast : Bool) :
    (senderLine before wasLast p).standing = p.standing := by
  unfold senderLine
  split
  · rfl
  · split <;> simp [countedLine, standing_ite]

@[simp] theorem releaseAtLine_standing : (releaseAtLine p).standing = p.standing := by
  simp [releaseAtLine, standing_ite]

@[simp] theorem drumLineEvent_standing (whole lockedBefore : Bool) :
    (drumLineEvent whole lockedBefore p).standing = p.standing := by
  simp [drumLineEvent, standing_ite]

@[simp] theorem timerLineEvent_standing : (timerLineEvent p).standing = p.standing := by
  simp [timerLineEvent, standing_ite]

/-! ## The drum -/

@[simp] theorem spinupPeriod_standing (period : Nat) : (spinupPeriod period p).standing = p.standing :=
  Part.standing_congr (by simp) (by simp)

@[simp] theorem lockingPeriod_standing (found : Demands) (period : Nat) :
    (lockingPeriod found period p).standing = p.standing :=
  Part.standing_congr (by simp) (by simp)

@[simp] theorem runLoop_standing (l : LoopStep) : (runLoop l p).standing = p.standing := rfl

@[simp] theorem recordError_standing (found : Demands) (err : Nat) : (recordError found err p).standing = p.standing := by
  simp [recordError, standing_ite]

@[simp] theorem judgeFault_standing (found : Demands) (err : Nat) : (judgeFault found err p).standing = p.standing := by
  simp [judgeFault, standing_ite]

@[simp] theorem judgeWindow_standing (err : Nat) : (judgeWindow err p).standing = p.standing := by
  simp [judgeWindow, standing_ite]

@[simp] theorem servoPeriod_standing (found : Demands) (period : Nat) :
    (servoPeriod found period p).standing = p.standing := by
  unfold servoPeriod
  split <;> simp [lockedPeriod]

@[simp] theorem captureWork_standing (servoFirst whole : Bool) (period : Option Nat) :
    (captureWork servoFirst whole period p).standing = p.standing := by
  cases period <;> simp [captureWork, standing_ite]

@[simp] theorem capture_standing (tick : Tick) (servoFirst : Bool) :
    (capture tick servoFirst p).standing = p.standing := by
  simp [capture, discardSet, buildSchedule, takeCapture]

@[simp] theorem advanceTick_standing (tick : Tick) : (advanceTick tick p).standing = p.standing :=
  Part.standing_congr (by simp) (by simp)

@[simp] theorem takeLockTimeout_standing : (takeLockTimeout p).standing = p.standing := by
  simp [takeLockTimeout]

@[simp] theorem takeStallTime_standing : (takeStallTime p).standing = p.standing := by
  simp [takeStallTime, takeStall, setDuty, clearRuns, standing_ite]

/-! ## Slots and conversions -/

@[simp] theorem imageSlotStart_standing (j : Nat) (h : LineInHand) : (imageSlotStart j h p).standing = p.standing := by
  simp only [imageSlotStart]
  split
  · split <;> simp [sendPixel, sendHeld]
  · simp [sendHeld]

@[simp] theorem imageStateSlot_standing (k : Nat) : (imageStateSlot k p).standing = p.standing := by
  simp only [imageStateSlot, standing_ite]
  split
  · rfl
  · split <;> simp [fixedWhite, setIncrement, standing_ite]

@[simp] theorem senderSlotStart_standing (k : Nat) : (senderSlotStart k p).standing = p.standing := by
  unfold senderSlotStart
  split <;> simp [fixedWhite, fixedBlack, setIncrement, standing_ite]

@[simp] theorem onLine_standing (f : OpenLine → OpenLine) : (p.onLine f).standing = p.standing := rfl

@[simp] theorem pushByte_standing (b : Byte) : (pushByte p b).standing = p.standing := by
  unfold pushByte
  split <;> simp [overflowLine, standing_ite]

@[simp] theorem pushBytes_standing (bs : List Byte) : (bs.foldl pushByte p).standing = p.standing := by
  induction bs generalizing p with
  | nil => rfl
  | cons b bs ih => simp [ih]

@[simp] theorem endStripSet_standing (l : OpenLine) (k : Nat) (xs : List Nat) :
    (endStripSet l k xs p).standing = p.standing := by
  simp only [endStripSet, judgeStrip, stripFault, standing_ite]
  split
  · split <;> simp [standing_ite]
  · simp

@[simp] theorem endImageSet_standing (l : OpenLine) (k : Nat) (xs : List Nat) :
    (endImageSet l k xs p).standing = p.standing := by
  simp [endImageSet, standing_ite]

@[simp] theorem endSet_standing : (endSet p).standing = p.standing := by
  simp only [endSet]
  split
  · rfl
  · split <;> simp [standing_ite]

@[simp] theorem scannerCentre_standing (k : Nat) : (scannerCentre k p).standing = p.standing := by
  simp [scannerCentre, standing_ite]

@[simp] theorem handStart_standing (offset : Nat) : (handStart offset p).standing = p.standing := by
  simp only [handStart]
  split <;> simp

@[simp] theorem handCentre_standing (offset : Nat) : (handCentre offset p).standing = p.standing := by
  simp [handCentre]

@[simp] theorem handTimerStart_standing (offset : Nat) : (handTimerStart offset p).standing = p.standing := by
  simp only [handTimerStart]
  split <;> simp

@[simp] theorem takeConversion_standing (value : Sample) : (takeConversion value p).standing = p.standing := by
  unfold takeConversion
  split <;> simp [standing_ite]

@[simp] theorem expireTimer_standing : (expireTimer p).standing = p.standing := by
  simp [expireTimer]

/-! ## The tone detector and the carriage -/

@[simp] theorem farEndEvent_standing (tone : Tone) : (farEndEvent tone p).standing = p.standing := by
  simp only [farEndEvent]
  split
  · rfl
  · cases tone
    case ready => simp [senderReady, standing_ite]
    case halt =>
      simp only [senderHalt]
      split <;> simp
    case receipt => simp [senderReceipt, standing_ite]

@[simp] theorem takeEdge_standing (micro : Tick) : (takeEdge micro p).standing = p.standing := by
  unfold takeEdge
  split
  · rfl
  · simp only [judgeCycle, standing_ite]
    (repeat' split) <;> simp [firstEdge, holdCapture]

@[simp] theorem failHoming_standing : (failHoming p).standing = p.standing := by
  simp [failHoming, setNotHome, standing_ite]

@[simp] theorem findHome_standing : (findHome p).standing = p.standing := by
  simp [findHome, enterWarmup, returnFound, standing_ite]

@[simp] theorem enterWaitLock_standing : (enterWaitLock p).standing = p.standing :=
  Part.standing_congr (by simp) (by simp)

/-! ## Starts -/

@[simp] theorem startSender_standing (s : JobSpec) : (startSender s p).standing = p.standing :=
  Part.standing_congr (by simp) (by simp)

@[simp] theorem startScanner_standing (s : JobSpec) : (startScanner s p).standing = p.standing := by
  simp [startScanner, enterHoming, enterWarmup, startHoming, standing_ite]

@[simp] theorem judgeHeader_standing (h : LineInHand) (b : Byte) : (judgeHeader h b p).standing = p.standing := by
  simp [judgeHeader, standing_ite]

@[simp] theorem receiveByte_standing (b : Byte) : (receiveByte b p).standing = p.standing := by
  unfold receiveByte
  split <;> simp

end updates

end Sys2Proof.Machine
end

section
/-! What a command can do, said once: `Moved`. -/

namespace Sys2Proof.Machine

open Sys2Proof.Claims (accessOf answers)

/-! ## What a count or an input changes -/

/-- From `p` to `q` counts and inputs have moved and no event has closed: the memory path, the dispatcher, the device
state, the settings in force and the state of the drum stand. -/
structure Counted (p q : Part) : Prop where
  path : q.path = p.path
  disp : q.disp = p.disp
  device : q.loader.device = p.loader.device
  accepted : q.loader.accepted = p.loader.accepted
  drum : q.servo.drum = p.servo.drum
  demands : q.servo.demands = p.servo.demands
  lockRunning : q.servo.lockRunning = p.servo.lockRunning
  speedFaultMark : q.servo.speedFaultMark = p.servo.speedFaultMark
  unsettled : q.servo.unsettled = p.servo.unsettled

namespace Counted
variable {p q r : Part}

theorem refl (p : Part) : Counted p p := ⟨rfl, rfl, rfl, rfl, rfl, rfl, rfl, rfl, rfl⟩

theorem trans (first : Counted p q) (second : Counted q r) : Counted p r :=
  ⟨second.path.trans first.path, second.disp.trans first.disp, second.device.trans first.device,
    second.accepted.trans first.accepted, second.drum.trans first.drum, second.demands.trans first.demands,
    second.lockRunning.trans first.lockRunning, second.speedFaultMark.trans first.speedFaultMark,
    second.unsettled.trans first.unsettled⟩

/-- Most counts leave the loader and the servo whole. -/
theorem of_blocks (path : q.path = p.path) (disp : q.disp = p.disp) (loader : q.loader = p.loader)
    (servo : q.servo = p.servo) : Counted p q := by
  constructor <;> simp [path, disp, loader, servo]

theorem choice {c : Prop} {_ : Decidable c} (yes : c → Counted p q) (no : ¬c → Counted p r) :
    Counted p (if c then q else r) := by
  split
  case isTrue h => exact yes h
  case isFalse h => exact no h

theorem startRead (p : Part) : Counted p (startRead p) := by
  unfold Machine.startRead
  exact choice (fun _ => ⟨rfl, rfl, rfl, rfl, rfl, rfl, rfl, rfl, rfl⟩) fun _ => refl p

theorem expireJobTimer (p : Part) : Counted p (expireJobTimer p) := by
  have ticks : Counted p (p.onClock fun t => { t with jobTicks := 0 }) := of_blocks rfl rfl rfl rfl
  have counts (q : Part) : Counted q (countSender (countScanner (countServo q))) :=
    ⟨rfl, rfl, rfl, rfl, rfl, rfl, rfl, rfl, rfl⟩
  exact (ticks.trans (startRead _)).trans (counts _)

theorem wrapTick (p : Part) : Counted p (wrapTick p) := by
  simp only [Machine.wrapTick]
  split
  · exact ⟨rfl, rfl, rfl, rfl, rfl, rfl, rfl, rfl, rfl⟩
  · exact of_blocks rfl rfl rfl rfl

theorem startPwm (p : Part) : Counted p (startPwm p) := ⟨rfl, rfl, rfl, rfl, rfl, rfl, rfl, rfl, rfl⟩

theorem passTick (p : Part) : Counted p (passTick p) := by
  have ticked : Counted p (countTick p) := of_blocks (by simp) (by simp) (by simp) (by simp)
  exact ticked.trans (choice (fun _ => wrapTick _) fun _ => of_blocks rfl rfl rfl rfl)

theorem passBeat (p : Part) : Counted p (passBeat p) := by
  have pwm : Counted p (movePwm p) := choice (fun _ => startPwm p) fun _ => of_blocks rfl rfl rfl rfl
  have link (q : Part) : Counted q (clockLink q) := by
    rcases clockLink_cases q with same | ⟨cfck, shifted, moved⟩
    · rw [same]; exact refl q
    · rw [moved]; exact ⟨rfl, rfl, rfl, rfl, rfl, rfl, rfl, rfl, rfl⟩
  have clock (q : Part) (f : Timebase → Timebase) : Counted q (q.onClock f) := of_blocks rfl rfl rfl rfl
  have micro (q : Part) : Counted q (passMicro q) := of_blocks rfl rfl rfl rfl
  exact (((pwm.trans (link _)).trans (clock _ _)).trans (choice (fun _ => micro _) fun _ => refl _)).trans
    (choice (fun _ => passTick _) fun _ => refl _)

theorem idleBeat (p : Part) : Counted p (idleBeat p) := choice (fun _ => refl p) fun _ => passBeat p

end Counted

/-! ## What a command changes -/

/-- What command `c` can make of a state. -/
inductive Moved (c : Instr) (s : State) : State → Prop
  /-- Counts and inputs move. -/
  | counts (q : Part) (counted : Counted s.part q) : Moved c s { s with part := q }
  /-- The blocks do their work, and the event closes. -/
  | event (q : Part) (standing : q.standing = s.part.standing) (loader : q.loader = s.part.loader) :
      Moved c s { s with part := closeEvent s.part q }
  /-- A fetch starts (R29). -/
  | fetch (ready : s.part.fetchReady = true) : Moved c s { s with part := closeEvent s.part (startFetch s.part) }
  /-- The dispatch gate is tried (R33). -/
  | dispatch (pins : Pins) : Moved c s { s with part := closeEvent s.part (dispatchPending (s.part.setPins pins)) }
  /-- An image byte arrives (R18). -/
  | image (b : Byte) (command : c = .imageByteReceived b) (loading : s.part.loader.device = .loading) :
      Moved c s { s with part := closeEvent s.part (takeImageByte b s.part) }
  /-- The transfer on the port completes (R12). -/
  | complete : Moved c s (completeTransfer s)
  /-- The host makes an access (R1, R2). -/
  | access (a : HostAccess) (inside : a.offset < Config.ramSize) (asked : accessOf s.part c = some a) :
      Moved c s (hostAccess a s)
  /-- RESET (R16). -/
  | reset (command : c = .reset) : Moved c s (resetMachine s)

namespace Moved
variable {c : Instr} {s : State}

theorem same : Moved c s s := counts s.part (.refl _)

/-- The shape of most commands: work and its close when something is due. -/
theorem eventIf {due : Prop} {_ : Decidable due} {q : Part} (standing : q.standing = s.part.standing)
    (loader : q.loader = s.part.loader) :
    Moved c s { s with part := if due then closeEvent s.part q else s.part } := by
  split
  · exact event q standing loader
  · exact same

/-- The same for work at an offset, due while a clock still has a slot to hand on. -/
theorem eventAt {held : Option Nat} {f : Nat → Part} (standing : ∀ offset, (f offset).standing = s.part.standing)
    (loader : ∀ offset, (f offset).loader = s.part.loader) :
    Moved c s { s with part := match held with
      | some offset => closeEvent s.part (f offset)
      | none => s.part } := by
  cases held with
  | none => exact same
  | some offset => exact event _ (standing offset) (loader offset)

theorem countsIf {due : Prop} {_ : Decidable due} {q r : Part} (yes : due → Counted s.part q)
    (no : ¬due → Counted s.part r) : Moved c s { s with part := if due then q else r } :=
  counts _ (.choice yes no)

theorem readStatus (i : Nat) (asked : accessOf s.part c = some (.read (ramOffset (s.part.settings.statusBase + i)))) :
    Moved c s (readStatus i s) := by
  unfold Machine.readStatus
  split
  · exact access _ (ramOffset_lt _) asked
  · exact same

theorem writeRequest (i : Nat) (b : Byte)
    (asked : accessOf s.part c = some (.write (ramOffset (s.part.settings.requestBase + i)) b)) :
    Moved c s (writeRequest i b s) := by
  unfold Machine.writeRequest
  split
  · exact access _ (ramOffset_lt _) asked
  · exact same

end Moved

theorem setPins_counted (p : Part) (pins : Pins) : Counted p (p.setPins pins) := .of_blocks rfl rfl rfl rfl

theorem exec_moved (c : Instr) (s : State) : answers c s (Moved c s) := by
  cases c with
  | reset => exact ⟨_, rfl, .reset rfl⟩
  | hostRead offset => exact ⟨_, rfl, .access _ offset.isLt rfl⟩
  | hostWrite offset byte => exact ⟨_, rfl, .access _ offset.isLt rfl⟩
  | readStatusByte0 => exact ⟨_, rfl, .readStatus 0 rfl⟩
  | readStatusByte1 => exact ⟨_, rfl, .readStatus 1 rfl⟩
  | readStatusByte31 => exact ⟨_, rfl, .readStatus 31 rfl⟩
  | jobProducerIndexWrite byte => exact ⟨_, rfl, .writeRequest 0 byte rfl⟩
  | slipConsumerIndexWrite byte => exact ⟨_, rfl, .writeRequest 1 byte rfl⟩
  | feedProducerIndexWrite byte => exact ⟨_, rfl, .writeRequest 2 byte rfl⟩
  | scanReleaseIndexWrite byte => exact ⟨_, rfl, .writeRequest 3 byte rfl⟩
  | commandArgumentWrite byte => exact ⟨_, rfl, .writeRequest 4 byte rfl⟩
  | clear => exact ⟨_, rfl, .writeRequest 5 0x01 rfl⟩
  | abortSend => exact ⟨_, rfl, .writeRequest 5 0x02 rfl⟩
  | abortScan => exact ⟨_, rfl, .writeRequest 5 0x03 rfl⟩
  | abortAll => exact ⟨_, rfl, .writeRequest 5 0x04 rfl⟩
  | spin => exact ⟨_, rfl, .writeRequest 5 0x05 rfl⟩
  | releaseSpin => exact ⟨_, rfl, .writeRequest 5 0x06 rfl⟩
  | unknownCommand code => exact ⟨_, rfl, .writeRequest 5 code rfl⟩
  | transferComplete => exact ⟨_, rfl, .complete⟩
  | jobFetchStart =>
    refine ⟨_, rfl, ?_⟩
    cases ready : s.part.fetchReady with
    | true => simpa [State.onPart, ready] using Moved.fetch ready
    | false => simpa [State.onPart, ready] using Moved.same
  | dispatch pins => exact ⟨_, rfl, .dispatch pins⟩
  | slipWriteStart => exact ⟨_, rfl, .eventIf rfl rfl⟩
  | statusWriteStart => exact ⟨_, rfl, .eventIf rfl rfl⟩
  | statusSpacingPassed => exact ⟨_, rfl, .counts _ (.of_blocks rfl rfl rfl rfl)⟩
  | readWindowExpiry =>
    exact ⟨_, rfl, .countsIf (fun _ => .of_blocks (by simp) (by simp) (by simp) (by simp)) fun _ => .refl _⟩
  | jobTimerExpiry pins =>
    exact ⟨_, rfl, .countsIf (fun _ => setPins_counted _ _) fun _ => (setPins_counted _ _).trans (.expireJobTimer _)⟩
  | imageByteReceived byte =>
    refine ⟨_, rfl, ?_⟩
    by_cases due : s.part.loader.device = .loading ∧ s.part.loader.reading = true
    · simpa [State.onPart, due] using Moved.image byte rfl due.1
    · simpa [State.onPart, due] using Moved.same
  | tickCounterWrap => exact ⟨_, rfl, .countsIf (fun _ => .refl _) fun _ => .wrapTick _⟩
  | indexCapture tick pins servoFirst =>
    refine ⟨_, rfl, ?_⟩
    simp only [State.onPart]
    split
    · exact .counts _ (setPins_counted _ _)
    · exact .event _ (by split <;> simp <;> rfl) (by split <;> simp)
  | pwmPeriodStart => exact ⟨_, rfl, .countsIf (fun _ => .refl _) fun _ => .startPwm _⟩
  | lockTimeout => exact ⟨_, rfl, .eventIf (by simp) (by simp)⟩
  | stallTimeExpiry => exact ⟨_, rfl, .eventIf (by simp) (by simp)⟩
  | slotStart => exact ⟨_, rfl, .eventAt (by simp) (by simp)⟩
  | slotCentre => exact ⟨_, rfl, .eventAt (by simp) (by simp)⟩
  | lineTimerExpiry => exact ⟨_, rfl, .eventIf (by simp) (by simp)⟩
  | lineTimerSlotStart => exact ⟨_, rfl, .eventAt (by simp) (by simp)⟩
  | conversionComplete value =>
    exact ⟨_, rfl, .event _ ((takeConversion_standing _ value).trans rfl) (by simp)⟩
  | forwardStep pins =>
    exact ⟨_, rfl, .countsIf (fun _ => .of_blocks rfl rfl rfl rfl) fun _ => setPins_counted _ _⟩
  | homingStep pins =>
    exact ⟨_, rfl, .countsIf (fun _ => .of_blocks (by simp) (by simp) (by simp) (by simp)) fun _ => setPins_counted _ _⟩
  | homeActive =>
    refine ⟨_, rfl, ?_⟩
    simp only [State.onPart]
    split
    · exact .event _ (by simp; rfl) (by simp)
    · exact .counts _ (setPins_counted _ _)
  | homeTimeout => exact ⟨_, rfl, .eventIf (by simp) (by simp)⟩
  | lampSettleExpiry => exact ⟨_, rfl, .eventIf (by simp) (by simp)⟩
  | toneSample =>
    exact ⟨_, rfl, .countsIf (fun _ => .refl _) fun _ => .of_blocks (by simp) (by simp) (by simp) (by simp)⟩
  | readyTimeout => exact ⟨_, rfl, .eventIf (by simp) (by simp)⟩
  | receiptTimeout => exact ⟨_, rfl, .eventIf (by simp) (by simp)⟩
  | lineLost => exact ⟨_, rfl, .eventIf (by simp) (by simp)⟩
  | rxcCapture micro =>
    refine ⟨_, rfl, ?_⟩
    simp only [State.onPart]
    split
    · exact .same
    · exact .event _ (by split <;> simp) (by split <;> simp)
  | detectorSilence => exact ⟨_, rfl, .countsIf (fun _ => .of_blocks rfl rfl rfl rfl) fun _ => .refl _⟩
  | resetRelease => exact ⟨_, rfl, .countsIf (fun _ => .of_blocks rfl rfl rfl rfl) fun _ => .refl _⟩

theorem moved_of_exec {c : Instr} {s t : State} (h : exec c s = .next t) : Moved c s t := by
  obtain ⟨u, answered, moved⟩ := exec_moved c s
  obtain rfl : u = t := Host.Outcome.next.inj (answered.symm.trans h)
  exact moved

/-- A step runs a command on the part and the RAM as they stand, or passes a beat. -/
theorem step_moved {s t : State} (h : step s = .next t) :
    ∃ c queue, Moved c { s with pending := queue } t := by
  unfold step at h
  split at h
  case h_1 c queue _ => exact ⟨c, queue, moved_of_exec h⟩
  case h_2 =>
    split at h
    case h_1 c _ => exact ⟨c, s.pending, moved_of_exec h⟩
    case h_2 =>
      obtain rfl := Host.Outcome.next.inj h
      exact ⟨.tickCounterWrap, s.pending, .counts _ (.idleBeat s.part)⟩

end Sys2Proof.Machine
end

section
/-! RAM in canonical form, and every access under way inside it (O4). -/

namespace Sys2Proof.Machine

/-! ## The accesses under way -/

/-- The transfer on the port, be it withdrawn or not, and the access that waits. -/
def MemoryPath.access (m : MemoryPath) : Port × Option Waiting := (m.port.outline, m.waiting)

/-- The transfer on the port and the access that waits lie in RAM (R1). -/
def MemoryPath.inside (m : MemoryPath) : Bool := m.port.inside && waitingInside m.waiting

theorem MemoryPath.inside_iff {m : MemoryPath} :
    m.inside = true ↔ m.port.inside = true ∧ waitingInside m.waiting = true := by
  simp [MemoryPath.inside]

theorem State.ramGood_iff {s : State} : s.ramGood = true ↔ s.ram.wf = true ∧ s.part.path.inside = true := by
  simp [State.ramGood, MemoryPath.inside, and_assoc]

theorem MemoryPath.access_of_outline {m n : MemoryPath} (h : n.outline = m.outline) : n.access = m.access := by
  simp only [MemoryPath.outline, MemoryPath.mk.injEq] at h
  simp [MemoryPath.access, h]

theorem MemoryPath.inside_of_access {m n : MemoryPath} (h : n.access = m.access) : n.inside = m.inside := by
  simp only [MemoryPath.access, Prod.mk.injEq] at h
  simp [MemoryPath.inside, Port.inside_of_outline h.1, h.2]

theorem Part.access_of_standing {p q : Part} (h : q.standing = p.standing) : q.path.access = p.path.access :=
  MemoryPath.access_of_outline (Part.path_of_standing h)

theorem access_ite {p q : Part} {c : Prop} {_ : Decidable c} :
    (if c then p else q).path.access = if c then p.path.access else q.path.access :=
  apply_ite (fun r : Part => r.path.access) _ _ _

section access
variable (p : Part)

@[simp] theorem abortJob_access (slot : JobSlot) (named : Named) :
    (abortJob slot named p).path.access = p.path.access :=
  Part.access_of_standing (by simp)

@[simp] theorem raise_access (c : Attention) : (p.raise c).path.access = p.path.access := rfl

@[simp] theorem clearOpen_access : (clearOpen p).path.access = p.path.access := by
  simp [clearOpen, clearPath, MemoryPath.access]

@[simp] theorem openCommand_access (code : Byte) : (openCommand code p).2.path.access = p.path.access := by
  unfold openCommand
  split
  case h_2 => unfold takeAbortSend; split <;> simp
  case h_3 => unfold takeAbortScan; split <;> simp
  case h_4 => unfold takeAbortAll; split <;> simp
  case h_5 => unfold takeSpin; split <;> simp
  all_goals simp [takeReleaseSpin]

@[simp] theorem takeCommand_access (code : Byte) : (takeCommand code p).path.access = p.path.access := by
  simp only [takeCommand, echoCommand, raise_access, Part.onDisp_path]
  split
  · simp
  · unfold closedCommand; split <;> rfl

@[simp] theorem snoopWrite_access (x : Nat) (b : Byte) : (snoopWrite x b p).path.access = p.path.access := by
  simp only [snoopWrite]
  split
  · rfl
  · simp [access_ite]

@[simp] theorem slipByteWritten_access : (slipByteWritten p).path.access = p.path.access := by
  unfold slipByteWritten
  split
  · rfl
  · simp only [access_ite, slipWritten]
    split <;> simp [Part.guardSlip, MemoryPath.access]

@[simp] theorem fetchByte_access (b : Byte) : (fetchByte b p).path.access = p.path.access := by
  unfold fetchByte endFetch
  split
  · rfl
  · simp only [access_ite]
    (repeat' split) <;> rfl

@[simp] theorem takeImageByte_access (b : Byte) : (takeImageByte b p).path.access = p.path.access := by
  simp only [takeImageByte]
  split
  · simp
  · split
    · simp
    · split <;> simp [acceptImage, MemoryPath.access]

@[simp] theorem startJob_access (s : JobSpec) : (startJob s p).path.access = p.path.access := by
  have offered (slot : JobSlot) (q : Part) : (offer slot .noLine .sender q).path.access = q.path.access :=
    Part.access_of_standing (by simp)
  unfold startJob
  split <;> simp [access_ite, offered]

@[simp] theorem dispatchPending_access : (dispatchPending p).path.access = p.path.access := by
  unfold dispatchPending
  split
  · rfl
  · simp [access_ite]

@[simp] theorem guardHit_access (x : Nat) : (guardHit x p).path.access = p.path.access := rfl

end access

/-! ## What keeps them in RAM -/

theorem grant_inside {p : Part} (h : p.path.inside = true) (r : Requester) : (p.grant r).path.inside = true := by
  rw [MemoryPath.inside_iff] at h ⊢
  simp [Port.inside, p.transferOf_inside r, h.2]

theorem grantIdle_inside {p : Part} (h : p.path.inside = true) : (grantIdle p).path.inside = true := by
  rcases grantIdle_cases p with same | ⟨r, -, -, granted⟩
  · rwa [same]
  · rw [granted]; exact grant_inside h r

theorem closeEvent_inside {p : Part} (before : Part) (h : p.path.inside = true) :
    (closeEvent before p).path.inside = true :=
  grantIdle_inside (by simpa using h)

namespace State
variable {s : State}

/-- Work on the part that moves no access keeps RAM as it is. -/
theorem ramGood_part {q : Part} (good : s.ramGood = true) (access : q.path.access = s.part.path.access) :
    ({ s with part := q } : State).ramGood = true := by
  rw [ramGood_iff] at good ⊢
  exact ⟨good.1, (MemoryPath.inside_of_access access).trans good.2⟩

theorem ramGood_close {before : State} (good : s.ramGood = true) : (closeFrom before s).ramGood = true := by
  rw [ramGood_iff] at good ⊢
  exact ⟨good.1, closeEvent_inside _ good.2⟩

theorem ramGood_write {x : Nat} {b : Byte} (good : s.ramGood = true) (inside : x < Config.ramSize) :
    (s.onRam fun m => m.write x b).ramGood = true := by
  rw [ramGood_iff] at good ⊢
  exact ⟨Ram.write_wf good.1 inside, good.2⟩

end State

section service
variable {s : State}

theorem serveAccess_ramGood {a : HostAccess} (good : s.ramGood = true) (inside : a.offset < Config.ramSize) :
    (serveAccess a s).ramGood = true := by
  cases a with
  | read x =>
    refine State.ramGood_part good ?_
    simp only [apply_ite (fun r : Part => r.path.access)]
    split <;> simp [MemoryPath.access]
  | write x b =>
    simp only [serveAccess, serveWrite]
    split
    · exact State.ramGood_part good (guardHit_access _ x)
    · refine State.ramGood_part (State.ramGood_write good inside) ?_
      change (if s.part.placed then snoopWrite x b s.part else s.part).path.access = s.part.path.access
      simp [access_ite]

theorem grantHost_ramGood {a : HostAccess} (good : s.ramGood = true) (inside : a.offset < Config.ramSize) :
    (grantHost a s).ramGood = true := by
  refine serveAccess_ramGood ?_ inside
  rw [State.ramGood_iff] at good ⊢
  exact ⟨good.1, rfl⟩

theorem freePort_ramGood (good : s.ramGood = true) : (freePort s).ramGood = true := by
  rw [State.ramGood_iff] at good ⊢
  exact ⟨good.1, MemoryPath.inside_iff.mpr ⟨rfl, (MemoryPath.inside_iff.mp good.2).2⟩⟩

theorem finishTransfer_access (t : Transfer) (s : State) :
    (finishTransfer t s).part.path.access = s.part.path.access := by
  unfold finishTransfer
  cases t.who with
  | lineSender =>
    simp only [State.onPart_part, access_ite]
    split
    · rfl
    · exact Part.access_of_standing (receiveByte_standing _ _)
  | scanner =>
    simp only [State.onPart_part, access_ite]
    split <;> rfl
  | statusWriter =>
    cases s.part.status.write with
    | none => rfl
    | some i => simp
  | slipWriter => exact slipByteWritten_access s.part
  | dispatcher => exact fetchByte_access s.part _

theorem finishTransfer_wf {t : Transfer} (wf : s.ram.wf = true) (inside : t.offset < Config.ramSize) :
    (finishTransfer t s).ram.wf = true := by
  unfold finishTransfer
  cases t.who with
  | lineSender => exact wf
  | scanner => exact Ram.write_wf wf inside
  | statusWriter =>
    cases s.part.status.write with
    | none => exact wf
    | some i => exact Ram.write_wf wf inside
  | slipWriter => exact Ram.write_wf wf inside
  | dispatcher => exact wf

theorem finishTransfer_ramGood {t : Transfer} (good : s.ramGood = true) (inside : t.offset < Config.ramSize) :
    (finishTransfer t s).ramGood = true := by
  have ⟨wf, path⟩ := State.ramGood_iff.mp good
  exact State.ramGood_iff.mpr
    ⟨finishTransfer_wf wf inside, (MemoryPath.inside_of_access (finishTransfer_access t s)).trans path⟩

theorem regrant_ramGood (good : s.ramGood = true) : (regrant s).ramGood = true := by
  have ⟨wf, inside⟩ := State.ramGood_iff.mp good
  unfold regrant
  split
  · exact State.ramGood_iff.mpr ⟨wf, grantIdle_inside inside⟩
  case h_2 w waiting =>
    have w_inside : w.access.offset < Config.ramSize := by
      simpa [waiting, waitingInside] using (MemoryPath.inside_iff.mp inside).2
    split
    · exact grantHost_ramGood good w_inside
    · split
      case h_1 r _ =>
        refine State.ramGood_iff.mpr ⟨wf, MemoryPath.inside_iff.mpr ⟨?_, ?_⟩⟩
        · exact (MemoryPath.inside_iff.mp (grant_inside inside r)).1
        · simpa [waitingInside] using w_inside
      · exact grantHost_ramGood good w_inside

theorem completeTransfer_ramGood (good : s.ramGood = true) : (completeTransfer s).ramGood = true := by
  unfold completeTransfer
  split
  · exact good
  · exact State.ramGood_close (regrant_ramGood (State.ramGood_part (freePort_ramGood good) rfl))
  case h_3 t port =>
    have t_inside : t.offset < Config.ramSize := by
      have inside := (MemoryPath.inside_iff.mp (State.ramGood_iff.mp good).2).1
      simpa [port, Port.inside] using inside
    exact State.ramGood_close (regrant_ramGood (finishTransfer_ramGood (freePort_ramGood good) t_inside))

theorem freeBus_ramGood (n : Nat) (good : s.ramGood = true) : (freeBus n s).ramGood = true := by
  induction n generalizing s with
  | zero => exact good
  | succ n ih =>
    simp only [freeBus]
    split
    · exact ih (completeTransfer_ramGood good)
    · exact good

theorem hostAccess_ramGood {a : HostAccess} (good : s.ramGood = true) (inside : a.offset < Config.ramSize) :
    (hostAccess a s).ramGood = true := by
  have free := freeBus_ramGood 3 good
  unfold hostAccess arrive
  split
  · have ⟨wf, path⟩ := State.ramGood_iff.mp free
    refine State.ramGood_iff.mpr ⟨wf, MemoryPath.inside_iff.mpr ⟨(MemoryPath.inside_iff.mp path).1, ?_⟩⟩
    simpa [waitingInside] using inside
  · exact State.ramGood_close (grantHost_ramGood free inside)

theorem resetMachine_ramGood (good : s.ramGood = true) : (resetMachine s).ramGood = true := by
  have ⟨wf, inside⟩ := State.ramGood_iff.mp good
  have reset : (s.onPart resetPart).ramGood = true := State.ramGood_iff.mpr ⟨wf, rfl⟩
  simp only [resetMachine]
  split
  case h_1 w waiting =>
    refine grantHost_ramGood reset ?_
    simpa [waiting, waitingInside] using (MemoryPath.inside_iff.mp inside).2
  · exact State.ramGood_iff.mpr ⟨wf, rfl⟩
  · exact reset

end service

theorem Moved.ramGood {c : Instr} {s t : State} (moved : Moved c s t) (good : s.ramGood = true) :
    t.ramGood = true := by
  have ⟨wf, inside⟩ := State.ramGood_iff.mp good
  cases moved with
  | counts q counted => exact State.ramGood_part good (by rw [counted.path])
  | event q standing _ =>
    exact State.ramGood_close (s := { s with part := q }) (State.ramGood_part good (Part.access_of_standing standing))
  | fetch _ => exact State.ramGood_close (s := { s with part := startFetch s.part }) (State.ramGood_part good rfl)
  | dispatch pins =>
    refine State.ramGood_close (s := { s with part := dispatchPending (s.part.setPins pins) }) ?_
    exact State.ramGood_part good (dispatchPending_access _)
  | image b _ _ =>
    refine State.ramGood_close (s := { s with part := takeImageByte b s.part }) 
      (State.ramGood_part good (takeImageByte_access _ b))
  | complete => exact completeTransfer_ramGood good
  | access a a_inside _ => exact hostAccess_ramGood good a_inside
  | reset _ => exact resetMachine_ramGood good

/-- Settles O4: every write of a step lies in RAM, and so does every transfer it grants. -/
theorem everyStepKeepsRamCanonical : Obligations.EveryStepKeepsRamCanonical := by
  unfold Obligations.EveryStepKeepsRamCanonical
  intro s t good h
  obtain ⟨c, queue, moved⟩ := step_moved h
  exact moved.ramGood good

end Sys2Proof.Machine
end

section
/-! Slips queued and jobs running (O6): a job that ends becomes one slip, and the gate makes room for the next. -/

namespace Sys2Proof.Machine

theorem Part.slipLoad_eq (p : Part) :
    p.slipLoad = p.disp.slipQueue.length + (p.disp.scanJob.isSome.toNat + p.disp.relayJob.isSome.toNat) := by
  simp only [Part.slipLoad, Part.runningJobs]
  cases p.disp.scanJob.isSome <;> cases p.disp.relayJob.isSome <;> rfl

theorem Part.slipLoad_of_outline {p q : Part} (h : q.disp.outline = p.disp.outline) : q.slipLoad = p.slipLoad := by
  obtain ⟨-, -, slipQueue, scanJob, relayJob⟩ := Dispatcher.outline_inj h
  rw [Part.slipLoad_eq, Part.slipLoad_eq, slipQueue, scanJob, relayJob]

theorem Part.slipLoad_of_standing {p q : Part} (h : q.standing = p.standing) : q.slipLoad = p.slipLoad :=
  Part.slipLoad_of_outline (Part.disp_of_standing h)

theorem Part.slipLoad_of_disp {p q : Part} (h : q.disp = p.disp) : q.slipLoad = p.slipLoad :=
  Part.slipLoad_of_outline (congrArg Dispatcher.outline h)

/-! ## The end of a job and the close of an event -/

/-- A job that ends leaves its place to its slip (R41). -/
@[simp] theorem finishJob_slipLoad (slot : JobSlot) (p : Part) : (finishJob slot p).slipLoad = p.slipLoad := by
  unfold finishJob
  split
  · rfl
  case h_2 j at_slot =>
    split
    · cases slot
      all_goals
        simp only [Part.jobAt] at at_slot
        simp [Part.slipLoad_eq, dropJob, queueSlip, at_slot]
        omega
    · rfl

@[simp] theorem finishJobs_slipLoad (p : Part) : (finishJobs p).slipLoad = p.slipLoad := by
  simp only [finishJobs]
  (repeat' split) <;> simp <;> rfl

@[simp] theorem closeEvent_slipLoad (before p : Part) : (closeEvent before p).slipLoad = p.slipLoad :=
  (Part.slipLoad_of_disp (p := finishJobs p) (by simp [closeEvent])).trans (finishJobs_slipLoad p)

/-! ## Dispatch -/

theorem queueSlip_slipLoad (sl : Slip) (p : Part) : (queueSlip sl p).slipLoad = p.slipLoad + 1 := by
  simp [Part.slipLoad_eq, queueSlip]
  omega

theorem placeJob_slipLoad_le (j : Job) (p : Part) : (placeJob j p).slipLoad ≤ p.slipLoad + 1 := by
  simp only [placeJob]
  split
  · have := Bool.toNat_le p.disp.relayJob.isSome
    simp [Part.slipLoad_eq]
    omega
  · have := Bool.toNat_le p.disp.scanJob.isSome
    simp [Part.slipLoad_eq]
    omega

theorem startJob_slipLoad_le (s : JobSpec) (p : Part) : (startJob s p).slipLoad ≤ p.slipLoad + 1 := by
  have started {q : Part} {j : Job} (h : q.standing = (placeJob j p).standing) : q.slipLoad ≤ p.slipLoad + 1 :=
    Nat.le_trans (Nat.le_of_eq (Part.slipLoad_of_standing h)) (placeJob_slipLoad_le j p)
  unfold startJob
  split
  · exact started (by simp; rfl)
  · split <;> exact started (by simp; rfl)
  · split <;> exact started (by simp; rfl)
  · exact Nat.le_succ _

/-- The gate passes a record while slips and jobs are fewer than four (R33). -/
theorem gatePasses_slipLoad {p : Part} {r : PendingJob} (h : p.gatePasses r = true) : p.slipLoad < 4 := by
  simp only [Part.gatePasses, Bool.and_eq_true] at h
  exact of_decide_eq_true h.1.2

theorem dispatchPending_slipLoad_le {p : Part} (h : p.slipLoad ≤ 4) : (dispatchPending p).slipLoad ≤ 4 := by
  unfold dispatchPending
  split
  · exact h
  · simp only []
    split
    case isTrue passes =>
      have room := gatePasses_slipLoad passes
      have taken : (p.onDisp fun d => { d with pendingJob := none }).slipLoad = p.slipLoad := rfl
      split
      · rw [queueSlip_slipLoad]; omega
      · have := startJob_slipLoad_le (‹PendingJob›).spec (p.onDisp fun d => { d with pendingJob := none })
        omega
    · exact h

/-! ## The host port -/

@[simp] theorem clearOpen_slipLoad (p : Part) : (clearOpen p).slipLoad = 0 := by
  simp [clearOpen, clearDispatcher, Part.slipLoad_eq]

theorem openCommand_slipLoad_le (code : Byte) (p : Part) : (openCommand code p).2.slipLoad ≤ p.slipLoad := by
  have aborted (slot : JobSlot) (named : Named) (q : Part) : (abortJob slot named q).slipLoad = q.slipLoad :=
    Part.slipLoad_of_standing (by simp)
  unfold openCommand
  split
  case h_1 => simp
  case h_2 => unfold takeAbortSend; split <;> simp [aborted]
  case h_3 => unfold takeAbortScan; split <;> simp [aborted]
  case h_4 =>
    simp only [takeAbortAll]
    split
    · exact Nat.le_refl _
    · exact Nat.le_of_eq ((aborted _ _ _).trans (aborted _ _ _))
  case h_5 => unfold takeSpin; split <;> exact Nat.le_refl _
  case h_6 => exact Nat.le_refl _
  case h_7 => exact Nat.le_refl _

theorem takeCommand_slipLoad_le (code : Byte) (p : Part) : (takeCommand code p).slipLoad ≤ p.slipLoad := by
  simp only [takeCommand]
  split
  · exact openCommand_slipLoad_le code p
  · unfold closedCommand; split <;> exact Nat.le_refl _

theorem snoopWrite_slipLoad_le (x : Nat) (b : Byte) (p : Part) : (snoopWrite x b p).slipLoad ≤ p.slipLoad := by
  have index : (takeJobProducer b p).slipLoad = p.slipLoad ∧ (takeSlipConsumer b p).slipLoad = p.slipLoad ∧
      (takeFeedProducer b p).slipLoad = p.slipLoad ∧ (takeScanRelease b p).slipLoad = p.slipLoad := by
    simp only [takeJobProducer, takeSlipConsumer, takeScanRelease]
    refine ⟨?_, ?_, rfl, ?_⟩ <;> split <;> rfl
  simp only [snoopWrite]
  split
  · exact Nat.le_refl _
  · split
    · split
      · exact Nat.le_refl _
      · exact takeCommand_slipLoad_le b p
    · split
      · exact Nat.le_refl _
      · (repeat' split) <;> simp [index]

section host
variable (s : State)

/-- The part once a host read has been served (R1, R6). -/
theorem serveRead_part (x : Nat) : (serveRead x s).part =
    let q := s.part.onPath fun m => { m with dataOut := s.ram.read x }
    if s.part.placed then snoopRead x q else q := rfl

/-- The part once a host write has been served (R2, R4, R5, R7). -/
theorem serveWrite_part (x : Nat) (b : Byte) : (serveWrite x b s).part =
    if s.part.drops x then guardHit x s.part
    else if s.part.placed then snoopWrite x b s.part else s.part := by
  unfold serveWrite
  split <;> rfl

theorem grantHost_slipLoad_le (a : HostAccess) : (grantHost a s).part.slipLoad ≤ s.part.slipLoad := by
  cases a with
  | read x =>
    refine Nat.le_of_eq (Part.slipLoad_of_disp ?_)
    simp only [grantHost, serveAccess, serveRead_part]
    split <;> simp
  | write x b =>
    simp only [grantHost, serveAccess, serveWrite_part]
    split
    · exact Nat.le_refl _
    · split
      · exact snoopWrite_slipLoad_le _ _ _
      · exact Nat.le_refl _

theorem slipByteWritten_slipLoad_le (p : Part) : (slipByteWritten p).slipLoad ≤ p.slipLoad := by
  unfold slipByteWritten
  split
  · exact Nat.le_refl _
  · split
    · exact Nat.le_refl _
    · simp [slipWritten, Part.slipLoad_eq]

theorem fetchByte_slipLoad (b : Byte) (p : Part) : (fetchByte b p).slipLoad = p.slipLoad := by
  unfold fetchByte
  split
  · rfl
  · simp only [endFetch]
    (repeat' split) <;> simp [Part.slipLoad_eq]

theorem finishTransfer_slipLoad_le (t : Transfer) : (finishTransfer t s).part.slipLoad ≤ s.part.slipLoad := by
  unfold finishTransfer
  cases t.who with
  | lineSender =>
    simp only [State.onPart_part]
    split
    · exact Nat.le_refl _
    · exact Nat.le_of_eq (Part.slipLoad_of_standing (receiveByte_standing _ _))
  | scanner =>
    simp only [State.onPart_part]
    split <;> exact Nat.le_refl _
  | statusWriter =>
    cases s.part.status.write with
    | none => exact Nat.le_refl _
    | some i => exact Nat.le_of_eq (Part.slipLoad_of_disp (by simp))
  | slipWriter => exact slipByteWritten_slipLoad_le s.part
  | dispatcher => exact Nat.le_of_eq (fetchByte_slipLoad _ _)

theorem regrant_slipLoad_le : (regrant s).part.slipLoad ≤ s.part.slipLoad := by
  unfold regrant
  split
  · exact Nat.le_of_eq (Part.slipLoad_of_disp (by simp))
  · split
    · exact grantHost_slipLoad_le s _
    · split
      · exact Nat.le_of_eq (Part.slipLoad_of_disp (by simp))
      · exact grantHost_slipLoad_le s _

theorem completeTransfer_slipLoad_le : (completeTransfer s).part.slipLoad ≤ s.part.slipLoad := by
  unfold completeTransfer
  split
  · exact Nat.le_refl _
  · rw [State.closeFrom_part, closeEvent_slipLoad]
    exact regrant_slipLoad_le _
  · rw [State.closeFrom_part, closeEvent_slipLoad]
    exact Nat.le_trans (regrant_slipLoad_le _) (finishTransfer_slipLoad_le _ _)

theorem freeBus_slipLoad_le (n : Nat) : (freeBus n s).part.slipLoad ≤ s.part.slipLoad := by
  induction n generalizing s with
  | zero => exact Nat.le_refl _
  | succ n ih =>
    simp only [freeBus]
    split
    · exact Nat.le_trans (ih _) (completeTransfer_slipLoad_le s)
    · exact Nat.le_refl _

theorem hostAccess_slipLoad_le (a : HostAccess) : (hostAccess a s).part.slipLoad ≤ s.part.slipLoad := by
  refine Nat.le_trans ?_ (freeBus_slipLoad_le s 3)
  unfold hostAccess arrive
  split
  · exact Nat.le_refl _
  · rw [State.closeFrom_part, closeEvent_slipLoad]
    exact grantHost_slipLoad_le _ a

theorem resetMachine_slipLoad : (resetMachine s).part.slipLoad = 0 := by
  simp only [resetMachine]
  split
  · exact Nat.le_zero.mp (grantHost_slipLoad_le _ _)
  · rfl
  · rfl

end host

theorem Moved.slipLoad_le {c : Instr} {s t : State} (moved : Moved c s t) (h : s.part.slipLoad ≤ 4) :
    t.part.slipLoad ≤ 4 := by
  cases moved with
  | counts q counted => exact Nat.le_trans (Nat.le_of_eq (Part.slipLoad_of_disp counted.disp)) h
  | event q standing _ => 
    exact Nat.le_trans (Nat.le_of_eq ((closeEvent_slipLoad _ q).trans (Part.slipLoad_of_standing standing))) h
  | fetch _ => exact Nat.le_trans (Nat.le_of_eq ((closeEvent_slipLoad _ _).trans rfl)) h
  | dispatch pins => exact Nat.le_trans (Nat.le_of_eq (closeEvent_slipLoad _ _)) (dispatchPending_slipLoad_le h)
  | image b _ _ => exact Nat.le_trans (Nat.le_of_eq ((closeEvent_slipLoad _ _).trans (Part.slipLoad_of_disp (by simp)))) h
  | complete => exact Nat.le_trans (completeTransfer_slipLoad_le s) h
  | access a _ _ => exact Nat.le_trans (hostAccess_slipLoad_le s a) h
  | reset _ => exact Nat.le_trans (Nat.le_of_eq (resetMachine_slipLoad s)) (Nat.zero_le 4)

/-- Settles O6: only a dispatch adds to slips and jobs, one behind a gate that has found fewer than four. -/
theorem slipsAndJobsNeverPassFour : Obligations.SlipsAndJobsNeverPassFour := by
  unfold Obligations.SlipsAndJobsNeverPassFour
  intro s t load h
  obtain ⟨c, queue, moved⟩ := step_moved h
  exact moved.slipLoad_le load

end Sys2Proof.Machine
end

section
/-! Between two events the part is settled (O7): the close of an event settles it, and counts and inputs leave it so. -/

namespace Sys2Proof.Machine

/-! ## What settled says -/

/-- No fetch runs beside a pending job (R29). -/
def Dispatcher.fetchesAlone (d : Dispatcher) : Bool := d.fetch.isNone || d.pendingJob.isNone

theorem Part.settled_iff {p : Part} : p.settled = true ↔
    (∀ slot, p.jobOver slot = false) ∧ (p.servo.drum = .locked → p.servo.lockRunning = false) ∧
      (p.servo.speedFaultMark = true → p.drumHasJob = true) ∧ p.disp.fetchesAlone = true ∧
      ∀ was, p.servo.unsettled = some was → p.awaitsDispatch = true ∧ was ≠ p.servo.demands.inForce := by
  have jobs : (∀ slot, p.jobOver slot = false) ↔ p.jobOver .scan = false ∧ p.jobOver .relay = false :=
    ⟨fun h => ⟨h .scan, h .relay⟩, fun h slot => match slot with
      | .scan => h.1
      | .relay => h.2⟩
  rw [jobs]
  simp only [Part.settled, Dispatcher.fetchesAlone, Bool.and_eq_true, Bool.not_eq_true', Bool.or_eq_true,
    Bool.and_eq_false_iff, decide_eq_false_iff_not, and_assoc]
  refine and_congr_right fun _ => and_congr_right fun _ => and_congr ?lock (and_congr ?mark (and_congr_right fun _ => ?_))
  case lock => rw [Decidable.imp_iff_not_or]
  case mark => cases p.servo.speedFaultMark <;> simp
  · cases p.servo.unsettled <;> simp

theorem Part.roomForSlip_eq (p : Part) : p.roomForSlip = decide (p.slipLoad < 4) := rfl

theorem Part.awaitsDispatch_congr {p q : Part} (disp : q.disp = p.disp) (device : q.loader.device = p.loader.device)
    (drum : q.servo.drum = p.servo.drum) : q.awaitsDispatch = p.awaitsDispatch := by
  have gate (r : PendingJob) : q.gatePasses r = p.gatePasses r := by
    have resources : q.resourcesFree r.spec.kind = p.resourcesFree r.spec.kind := by
      cases r.spec.kind <;> simp [Part.resourcesFree, Part.senderSlot, disp]
    have room : q.roomForSlip = p.roomForSlip := by
      rw [Part.roomForSlip_eq, Part.roomForSlip_eq, Part.slipLoad_of_disp disp]
    simp only [Part.gatePasses, Part.isOpen, resources, room, device]
  rw [Part.awaitsDispatch, Part.awaitsDispatch, disp, drum]
  simp only [gate]

theorem Counted.settled {p q : Part} (counted : Counted p q) : q.settled = p.settled := by
  have awaits := Part.awaitsDispatch_congr counted.disp counted.device counted.drum
  simp only [Part.settled, Part.jobOver, Part.jobAt, Part.drumHasJob, Part.jobDemands, awaits, counted.disp,
    counted.drum, counted.demands, counted.lockRunning, counted.speedFaultMark, counted.unsettled]

/-- An update that leaves loader, dispatcher and servo leaves the part settled. -/
theorem Part.settled_congr {p q : Part} (loader : q.loader = p.loader) (disp : q.disp = p.disp)
    (servo : q.servo = p.servo) : q.settled = p.settled := by
  have awaits := Part.awaitsDispatch_congr disp (congrArg Loader.device loader) (congrArg Servo.drum servo)
  simp only [Part.settled, Part.jobOver, Part.jobAt, Part.drumHasJob, Part.jobDemands, awaits, disp, servo]

/-! ## The end of jobs -/

theorem Part.jobOver_iff {p : Part} {slot : JobSlot} :
    p.jobOver slot = true ↔ ∃ j, p.jobAt slot = some j ∧ j.over = true := by
  unfold Part.jobOver
  cases p.jobAt slot <;> simp

/-- A job that is over leaves a slip, a free place and the gate checked, and it may leave a carry-over (R33, R41). -/
theorem finishJob_of_over {slot : JobSlot} {p : Part} {j : Job} (at_slot : p.jobAt slot = some j)
    (ended : j.over = true) :
    finishJob slot p = placeCarry j (checkGate (dropJob slot (queueSlip j.slip p))) := by
  simp [finishJob, at_slot, ended]

theorem finishJob_jobOver (slot : JobSlot) (p : Part) : (finishJob slot p).jobOver slot = false := by
  cases running : p.jobOver slot with
  | false => rwa [finishJob_running slot running]
  | true =>
    obtain ⟨j, at_slot, ended⟩ := Part.jobOver_iff.mp running
    rw [finishJob_of_over at_slot ended]
    cases slot <;> simp [Part.jobOver, Part.jobAt, dropJob]

/-- The end of one job leaves the other slot. -/
theorem finishJob_jobAt_of_ne {slot other : JobSlot} (ne : other ≠ slot) (p : Part) :
    (finishJob slot p).jobAt other = p.jobAt other := by
  cases running : p.jobOver slot with
  | false => rw [finishJob_running slot running]
  | true =>
    obtain ⟨j, at_slot, ended⟩ := Part.jobOver_iff.mp running
    rw [finishJob_of_over at_slot ended]
    cases slot <;> cases other <;> simp_all [Part.jobAt, dropJob, queueSlip]

theorem finishJob_both_jobOver (first second : JobSlot) (ne : first ≠ second) (p : Part) (slot : JobSlot) :
    (finishJob second (finishJob first p)).jobOver slot = false := by
  by_cases last : slot = second
  · rw [last]; exact finishJob_jobOver second _
  · have other : slot = first := by cases slot <;> cases first <;> cases second <;> simp_all
    rw [other, Part.jobOver, finishJob_jobAt_of_ne ne]
    exact finishJob_jobOver first p

theorem finishJobs_jobOver (p : Part) (slot : JobSlot) : (finishJobs p).jobOver slot = false := by
  simp only [finishJobs]
  split
  · split
    · exact finishJob_both_jobOver .relay .scan (by decide) _ slot
    · exact finishJob_both_jobOver .scan .relay (by decide) _ slot
  · exact finishJob_both_jobOver .scan .relay (by decide) _ slot

theorem finishJob_fetchesAlone (slot : JobSlot) (p : Part) :
    (finishJob slot p).disp.fetchesAlone = p.disp.fetchesAlone := by
  unfold finishJob
  split
  · rfl
  · split
    · cases slot <;> simp [Dispatcher.fetchesAlone, dropJob, queueSlip]
    · rfl

theorem finishJobs_fetchesAlone (p : Part) : (finishJobs p).disp.fetchesAlone = p.disp.fetchesAlone := by
  simp only [finishJobs]
  (repeat' split) <;> simp only [finishJob_fetchesAlone]

/-! ## The servo at the close -/

section servo
variable (p : Part)

@[simp] theorem setDrum_unsettled (d : DrumState) : (setDrum d p).servo.unsettled = p.servo.unsettled := by
  have lost (q : Part) : (loseLock q).servo.unsettled = q.servo.unsettled := by
    simp only [loseLock]
    split <;> rfl
  unfold setDrum
  split
  · rfl
  · cases d <;> simp only [] <;> split <;> simp [lost, gainLock, enterStopped]

@[simp] theorem enterLocking_unsettled : (enterLocking p).servo.unsettled = p.servo.unsettled := by
  simp [enterLocking, setDuty]

@[simp] theorem enterSpinup_unsettled : (enterSpinup p).servo.unsettled = p.servo.unsettled := by
  simp [enterSpinup, setDuty]

@[simp] theorem enterSpindown_unsettled : (enterSpindown p).servo.unsettled = p.servo.unsettled := by
  simp [enterSpindown, setDuty, clearRuns]

@[simp] theorem changeTarget_unsettled : (changeTarget p).servo.unsettled = p.servo.unsettled := by
  simp only [changeTarget]
  split <;> simp

@[simp] theorem takeTarget_unsettled (speed : Nat) : (takeTarget speed p).servo.unsettled = p.servo.unsettled := by
  simp only [takeTarget]
  split <;> simp [clearQuiet]

@[simp] theorem dropTarget_unsettled : (dropTarget p).servo.unsettled = p.servo.unsettled := by
  unfold dropTarget
  split <;> simp

/-- Once the servo has acted nothing is left open (R52). -/
theorem actOnDemand_unsettled (was : Option Nat) : (actOnDemand was p).servo.unsettled = none := by
  simp only [actOnDemand]
  split
  · rfl
  · split <;> simp

/-- What tidying leaves of the servo. -/
theorem tidyServo_servo : (tidyServo p).servo = { p.servo with
    lockRunning := if p.servo.drum = .locked then false else p.servo.lockRunning,
    speedFaultMark := if p.drumHasJob = true then p.servo.speedFaultMark else false } := by
  have fresh (q : Part) (h : q.disp = p.disp) (d : q.servo.demands = p.servo.demands) :
      q.drumHasJob = p.drumHasJob := by
    simp [Part.drumHasJob, Part.jobDemands, h, d]
  simp only [tidyServo]
  by_cases locked : p.servo.drum = .locked
  · simp only [if_pos locked]
    rw [fresh (p.onServo _) rfl rfl]
    cases has : p.drumHasJob <;> simp
  · simp only [if_neg locked]
    cases has : p.drumHasJob <;> simp

theorem tidyServo_drumHasJob : (tidyServo p).drumHasJob = p.drumHasJob := by
  simp [Part.drumHasJob, Part.jobDemands, tidyServo_servo]

theorem tidyServo_awaitsDispatch : (tidyServo p).awaitsDispatch = p.awaitsDispatch :=
  Part.awaitsDispatch_congr (by simp) (by simp) (by simp [tidyServo_servo])

/-- With no finished job and no fetch beside a pending job, finding the demand afresh settles the part. -/
theorem settleDemand_settles (before : Part) (jobs : ∀ slot, p.jobOver slot = false)
    (alone : p.disp.fetchesAlone = true) : (settleDemand p.awaitsDispatch before p).settled = true := by
  rw [Part.settled_iff]
  refine ⟨fun slot => ?_, ?lock, ?mark, by simpa using alone, ?left⟩
  · rw [← jobs slot]
    cases slot <;> simp [Part.jobOver, Part.jobAt]
  all_goals simp only [settleDemand]
  case lock =>
    rw [tidyServo_servo]
    exact fun locked => if_pos locked
  case mark =>
    rw [tidyServo_drumHasJob, tidyServo_servo]
    exact fun marked => Classical.byContradiction fun no => by simp [no] at marked
  case left =>
    intro was left
    rw [tidyServo_servo] at left ⊢
    rw [tidyServo_awaitsDispatch]
    cases awaits : p.awaitsDispatch with
    | false => simp [awaits, actOnDemand_unsettled] at left
    | true =>
      simp only [awaits, if_true, leaveDemand, Part.onServo_servo] at left ⊢
      split at left
      · cases left
      · obtain rfl := Option.some.inj left
        exact ⟨(Part.awaitsDispatch_congr rfl rfl rfl).trans awaits, ‹_›⟩

end servo

/-- The close of an event settles the part. -/
theorem closeEvent_settles (before : Part) {p : Part} (alone : p.disp.fetchesAlone = true) :
    (closeEvent before p).settled = true := by
  simp only [closeEvent]
  refine Eq.trans ?_ (settleDemand_settles (finishJobs p) before (finishJobs_jobOver p)
    ((finishJobs_fetchesAlone p).trans alone))
  exact Part.settled_congr (by simp) (by simp) (by simp)

/-! ## Commands -/

theorem Part.fetchesAlone_of_standing {p q : Part} (h : q.standing = p.standing) :
    q.disp.fetchesAlone = p.disp.fetchesAlone := by
  obtain ⟨fetch, pendingJob, -⟩ := Dispatcher.outline_inj (Part.disp_of_standing h)
  rw [Dispatcher.fetchesAlone, Dispatcher.fetchesAlone, fetch, pendingJob]

theorem fetchesAlone_of_settled {p : Part} (h : p.settled = true) : p.disp.fetchesAlone = true := by
  obtain ⟨-, -, -, alone, -⟩ := Part.settled_iff.mp h
  exact alone

theorem startFetch_fetchesAlone {p : Part} (ready : p.fetchReady = true) : (startFetch p).disp.fetchesAlone = true := by
  simp only [Part.fetchReady, Bool.and_eq_true] at ready
  obtain ⟨⟨⟨-, pendingJob⟩, -⟩, -⟩ := ready
  simpa [startFetch, Dispatcher.fetchesAlone] using pendingJob

section alone
variable {p : Part} (alone : p.disp.fetchesAlone = true)
include alone

theorem startJob_fetchesAlone (s : JobSpec) : (startJob s p).disp.fetchesAlone = true := by
  have placed (j : Job) : (placeJob j p).disp.fetchesAlone = true := by
    simp only [placeJob]
    split <;> exact alone
  have started {q : Part} {j : Job} (h : q.standing = (placeJob j p).standing) : q.disp.fetchesAlone = true :=
    (Part.fetchesAlone_of_standing h).trans (placed j)
  unfold startJob
  split
  · exact started (by simp; rfl)
  · split <;> exact started (by simp; rfl)
  · split <;> exact started (by simp; rfl)
  · exact alone

theorem dispatchPending_fetchesAlone : (dispatchPending p).disp.fetchesAlone = true := by
  have taken : (p.onDisp fun d => { d with pendingJob := none }).disp.fetchesAlone = true := by
    simp [Dispatcher.fetchesAlone]
  unfold dispatchPending
  split
  · exact alone
  · simp only []
    split
    · split
      · exact taken
      · exact startJob_fetchesAlone taken _
    · exact alone

theorem openCommand_fetchesAlone (code : Byte) : (openCommand code p).2.disp.fetchesAlone = true := by
  have aborted (slot : JobSlot) (named : Named) (q : Part) :
      (abortJob slot named q).disp.fetchesAlone = q.disp.fetchesAlone := Part.fetchesAlone_of_standing (by simp)
  unfold openCommand
  split
  case h_1 => simp [clearOpen, clearDispatcher, Dispatcher.fetchesAlone]
  case h_2 => unfold takeAbortSend; split <;> simp [aborted, alone]
  case h_3 => unfold takeAbortScan; split <;> simp [aborted, alone]
  case h_4 =>
    simp only [takeAbortAll]
    split
    · exact alone
    · have both := (aborted .relay .sender (abortJob .scan .scanner p)).trans (aborted .scan .scanner p)
      rw [alone] at both
      simpa [Dispatcher.fetchesAlone] using both
  case h_5 => unfold takeSpin; split <;> exact alone
  case h_6 => exact alone
  case h_7 => exact alone

theorem takeCommand_fetchesAlone (code : Byte) : (takeCommand code p).disp.fetchesAlone = true := by
  simp only [takeCommand]
  split
  · exact openCommand_fetchesAlone alone code
  · unfold closedCommand; split <;> exact alone

theorem snoopWrite_fetchesAlone (x : Nat) (b : Byte) : (snoopWrite x b p).disp.fetchesAlone = true := by
  simp only [snoopWrite]
  split
  · exact alone
  · split
    · split
      · exact alone
      · exact takeCommand_fetchesAlone alone b
    · simp only [takeJobProducer, takeSlipConsumer, takeScanRelease]
      (repeat' split) <;> exact alone

theorem fetchByte_fetchesAlone (b : Byte) : (fetchByte b p).disp.fetchesAlone = true := by
  unfold fetchByte
  split
  · exact alone
  case h_2 f fetch =>
    have pendingJob : p.disp.pendingJob = none := by simpa [Dispatcher.fetchesAlone, fetch] using alone
    simp only [endFetch]
    (repeat' split) <;> simp [Dispatcher.fetchesAlone, pendingJob]

theorem slipByteWritten_fetchesAlone : (slipByteWritten p).disp.fetchesAlone = true := by
  unfold slipByteWritten
  split
  · exact alone
  · split
    · exact alone
    · simpa [slipWritten, Dispatcher.fetchesAlone] using alone

end alone

section host
variable {s : State} (alone : s.part.disp.fetchesAlone = true)
include alone

theorem grantHost_fetchesAlone (a : HostAccess) : (grantHost a s).part.disp.fetchesAlone = true := by
  cases a with
  | read x =>
    simp only [grantHost, serveAccess, serveRead_part]
    split <;> simpa using alone
  | write x b =>
    simp only [grantHost, serveAccess, serveWrite_part]
    split
    · simpa using alone
    · split
      · exact snoopWrite_fetchesAlone (p := s.part.onPath _) alone x b
      · exact alone

theorem finishTransfer_fetchesAlone (t : Transfer) : (finishTransfer t s).part.disp.fetchesAlone = true := by
  unfold finishTransfer
  cases t.who with
  | lineSender =>
    simp only [State.onPart_part]
    split
    · exact alone
    · exact (Part.fetchesAlone_of_standing (receiveByte_standing _ _)).trans alone
  | scanner =>
    simp only [State.onPart_part]
    split <;> exact alone
  | statusWriter =>
    cases s.part.status.write with
    | none => exact alone
    | some i => simpa using alone
  | slipWriter => exact slipByteWritten_fetchesAlone alone
  | dispatcher => exact fetchByte_fetchesAlone alone _

theorem regrant_fetchesAlone : (regrant s).part.disp.fetchesAlone = true := by
  unfold regrant
  split
  · simpa using alone
  · split
    · exact grantHost_fetchesAlone alone _
    · split
      · simpa using alone
      · exact grantHost_fetchesAlone alone _

end host

section path
variable {s : State} (h : s.part.settled = true)
include h

theorem completeTransfer_settled : (completeTransfer s).part.settled = true := by
  have alone := fetchesAlone_of_settled h
  unfold completeTransfer
  split
  · exact h
  · exact closeEvent_settles _ (regrant_fetchesAlone alone)
  · exact closeEvent_settles _ (regrant_fetchesAlone (finishTransfer_fetchesAlone (s := freePort s) alone _))

theorem freeBus_settled (n : Nat) : (freeBus n s).part.settled = true := by
  induction n generalizing s with
  | zero => exact h
  | succ n ih =>
    simp only [freeBus]
    split
    · exact ih (completeTransfer_settled h)
    · exact h

theorem hostAccess_settled (a : HostAccess) : (hostAccess a s).part.settled = true := by
  have free := freeBus_settled h 3
  unfold hostAccess arrive
  split
  · exact (Part.settled_congr rfl rfl rfl).trans free
  · exact closeEvent_settles _ (grantHost_fetchesAlone (fetchesAlone_of_settled free) a)

end path

/-- An access served in LOADING moves the data pins alone, so RESET leaves the part settled. -/
theorem resetMachine_settled (s : State) : (resetMachine s).part.settled = true := by
  have reset : (s.onPart resetPart).part.settled = true := rfl
  simp only [resetMachine]
  split
  case h_1 w _ =>
    cases w.access with
    | read x => exact reset
    | write x b => exact reset
  · exact reset
  · exact reset

theorem Moved.settled {c : Instr} {s t : State} (moved : Moved c s t) (h : s.part.settled = true) :
    t.part.settled = true := by
  have alone := fetchesAlone_of_settled h
  cases moved with
  | counts q counted => exact counted.settled.trans h
  | event q standing _ => exact closeEvent_settles _ ((Part.fetchesAlone_of_standing standing).trans alone)
  | fetch ready => exact closeEvent_settles _ (startFetch_fetchesAlone ready)
  | dispatch pins => exact closeEvent_settles _ (dispatchPending_fetchesAlone (p := s.part.setPins pins) alone)
  | image b _ _ => exact closeEvent_settles _ (by simpa using alone)
  | complete => exact completeTransfer_settled h
  | access a _ _ => exact hostAccess_settled h a
  | reset _ => exact resetMachine_settled s

/-- Settles O7: every step closes its event or moves counts and inputs alone. -/
theorem everyStepLeavesThePartSettled : Obligations.EveryStepLeavesThePartSettled := by
  unfold Obligations.EveryStepLeavesThePartSettled
  intro s t h step
  obtain ⟨c, queue, moved⟩ := step_moved step
  exact moved.settled h

end Sys2Proof.Machine
end

section
/-! The device state (R17), the settings in force (R24), and the bytes of the guard set under the host's commands (R2,
R10). -/

namespace Sys2Proof.Machine

open Sys2Proof.Claims (accessOf isHostCommand answers)

/-! ## A command as a host access -/

/-- While the placement is in force a host command is its access (Table 1.3-1). -/
theorem exec_of_accessOf {c : Instr} {s : State} {a : HostAccess} (placed : s.part.placed = true)
    (asked : accessOf s.part c = some a) : exec c s = .next (hostAccess a s) := by
  have read (i : Nat) := readStatus_placed placed i
  have write (i : Nat) (b : Byte) := writeRequest_placed placed i b
  cases c <;> cases asked
  case hostRead => rfl
  case hostWrite => rfl
  case readStatusByte0 => exact congrArg _ (read 0)
  case readStatusByte1 => exact congrArg _ (read 1)
  case readStatusByte31 => exact congrArg _ (read 31)
  case jobProducerIndexWrite b => exact congrArg _ (write 0 b)
  case slipConsumerIndexWrite b => exact congrArg _ (write 1 b)
  case feedProducerIndexWrite b => exact congrArg _ (write 2 b)
  case scanReleaseIndexWrite b => exact congrArg _ (write 3 b)
  case commandArgumentWrite b => exact congrArg _ (write 4 b)
  case unknownCommand code => exact congrArg _ (write 5 code)
  all_goals exact congrArg _ (write 5 _)

theorem accessOf_of_isHostCommand {c : Instr} (host : isHostCommand c = true) (p : Part) :
    ∃ a, accessOf p c = some a := by
  cases c <;> cases host <;> exact ⟨_, rfl⟩

/-! ## Guarded bytes -/

/-- A service writes no byte of the guard set while the placement is in force (R2). -/
theorem serveAccess_guarded {s : State} (placed : s.part.placed = true) (a : HostAccess) {x : Nat}
    (guarded : s.part.path.guards.covers x = true) : (serveAccess a s).ram.read x = s.ram.read x := by
  cases a with
  | read y => rfl
  | write y b =>
    simp only [serveAccess, serveWrite_ram]
    split
    · rfl
    case isFalse forwarded =>
      refine Ram.read_write_other ?_
      rintro rfl
      exact forwarded (by simp [Part.drops, placed, guarded])

/-- Settles O10: on an idle bus the access is served at once, and a guarded byte drops a write. -/
theorem guardedBytesSurviveHostCommands : Obligations.GuardedBytesSurviveHostCommands := by
  unfold Obligations.GuardedBytesSurviveHostCommands
  intro c s host idle placed
  obtain ⟨a, asked⟩ := accessOf_of_isHostCommand host s.part
  refine ⟨_, exec_of_accessOf placed asked, fun x guarded => ?_⟩
  rw [hostAccess_idle idle]
  exact serveAccess_guarded (s := s.onPart fun p => p.onPath fun m => { m with port := .host, waiting := none })
    placed a guarded

/-! ## The loader under a host access -/

/-- The access that opens a CLOSED device: a write of 01H to request byte 5 (R26). -/
def Part.clearAccess (p : Part) : HostAccess := .write (p.settings.requestBase + 5) 0x01

theorem Part.settings_of_accepted {p q : Part} (h : q.loader.accepted = p.loader.accepted) :
    q.settings = p.settings := by
  simp [Part.settings, h]

theorem Part.closed_of_placed {p : Part} (placed : p.placed = true) (shut : p.isOpen = false) :
    p.loader.device = .closed := by
  simp only [Part.placed, Bool.or_eq_true, decide_eq_true_eq] at placed
  exact placed.resolve_right (of_decide_eq_false shut)

/-- From `p` to `q` the settings in force stand, and the device is left or opened by the access `asked`. -/
structure Opens (asked : Option HostAccess) (p q : Part) : Prop where
  accepted : q.loader.accepted = p.loader.accepted
  device : q.loader.device = p.loader.device ∨
    p.loader.device = .closed ∧ q.loader.device = .opened ∧ asked = some p.clearAccess

namespace Opens
variable {asked : Option HostAccess} {p q r : Part}

theorem of_loader (h : q.loader = p.loader) : Opens asked p q :=
  ⟨congrArg Loader.accepted h, .inl (congrArg Loader.device h)⟩

theorem clearAccess (opens : Opens asked p q) : q.clearAccess = p.clearAccess := by
  rw [Part.clearAccess, Part.clearAccess, Part.settings_of_accepted opens.accepted]

theorem trans (first : Opens asked p q) (second : Opens asked q r) : Opens asked p r where
  accepted := second.accepted.trans first.accepted
  device := by
    rcases first.device with kept | opened
    · rcases second.device with kept' | ⟨closed, opened, access⟩
      · exact .inl (kept'.trans kept)
      · exact .inr ⟨kept ▸ closed, opened, first.clearAccess ▸ access⟩
    · rcases second.device with kept' | ⟨closed, -⟩
      · exact .inr ⟨opened.1, kept'.trans opened.2.1, opened.2.2⟩
      · simp [opened.2.1] at closed

theorem placed (opens : Opens asked p q) : q.placed = p.placed := by
  rcases opens.device with kept | ⟨closed, opened, -⟩
  · simp [Part.placed, kept]
  · simp [Part.placed, closed, opened]

theorem acceptedPlaced (opens : Opens asked p q) : q.acceptedPlaced = p.acceptedPlaced := by
  rw [Part.acceptedPlaced, Part.acceptedPlaced, opens.accepted, opens.placed]

end Opens

/-- With no access to ask for it the device is left. -/
theorem Opens.device_of_none {p q : Part} (opens : Opens none p q) : q.loader.device = p.loader.device :=
  opens.device.resolve_right fun ⟨_, _, asked⟩ => by cases asked

theorem takeCommand_opens {p : Part} (placed : p.placed = true) (code : Byte) :
    Opens (some (.write (p.settings.requestBase + 5) code)) p (takeCommand code p) := by
  cases shut : p.isOpen with
  | true => exact .of_loader (by simp [takeCommand, shut])
  | false =>
    have closed := Part.closed_of_placed placed shut
    by_cases clear : code = 1
    · have opened : (takeCommand code p).loader = { p.loader with device := .opened } := by
        simp [takeCommand, shut, closedCommand, clear, echoCommand, openDevice]
      exact ⟨by rw [opened], .inr ⟨closed, by rw [opened], by rw [clear]; rfl⟩⟩
    · have echoed : closedCommand code p = (.notOpen, p) := if_neg clear
      exact .of_loader (by simp [takeCommand, shut, echoed])

theorem snoopWrite_opens {p : Part} (placed : p.placed = true) (x : Nat) (b : Byte) :
    Opens (some (.write x b)) p (snoopWrite x b p) := by
  simp only [snoopWrite]
  split
  · exact .of_loader (by simp)
  · split
    case isTrue command =>
      split
      · exact .of_loader rfl
      · rw [command]
        exact takeCommand_opens placed b
    · exact .of_loader (by (repeat' split) <;> simp)

theorem grantHost_opens (s : State) (a : HostAccess) : Opens (some a) s.part (grantHost a s).part := by
  cases a with
  | read x =>
    refine .of_loader ?_
    simp only [grantHost, serveAccess, serveRead_part]
    split <;> simp
  | write x b =>
    have granted : Opens (some (.write x b)) s.part (s.part.onPath fun m => { m with port := .host, waiting := none }) :=
      .of_loader rfl
    refine granted.trans ?_
    simp only [grantHost, serveAccess, serveWrite_part]
    split
    · exact .of_loader (by simp)
    · split
      case isTrue placed => exact snoopWrite_opens placed x b
      · exact .of_loader rfl

theorem serveAccess_access (s : State) (a : HostAccess) :
    (serveAccess a s).part.path.access = s.part.path.access := by
  cases a with
  | read x =>
    simp only [serveAccess, serveRead_part]
    split <;> simp [MemoryPath.access]
  | write x b =>
    simp only [serveAccess, serveWrite_part, access_ite]
    simp

theorem grantHost_waiting (s : State) (a : HostAccess) : (grantHost a s).part.path.waiting = none :=
  congrArg Prod.snd (serveAccess_access _ a)

/-! ## The loader when transfers complete -/

/-- The access that waits, if one does. -/
def Part.waitingAccess (p : Part) : Option HostAccess := p.path.waiting.map Waiting.access

/-- From `s` to `t` transfers have completed: an access that waits goes on waiting or has been served, and the device is
opened by it alone. -/
structure Completes (p q : Part) : Prop where
  opens : Opens p.waitingAccess p q
  waits : q.waitingAccess = p.waitingAccess ∨ q.waitingAccess = none

namespace Completes
variable {p q r : Part}

theorem refl (p : Part) : Completes p p := ⟨.of_loader rfl, .inl rfl⟩

theorem trans (first : Completes p q) (second : Completes q r) : Completes p r := by
  rcases first.waits with waits | served
  · exact ⟨first.opens.trans (waits ▸ second.opens), waits ▸ second.waits⟩
  · have opens := second.opens
    have waits := second.waits
    rw [served] at opens waits
    exact ⟨first.opens.trans ⟨opens.accepted, .inl opens.device_of_none⟩, .inr (waits.elim id id)⟩

theorem of_path (loader : q.loader = p.loader) (waiting : q.path.waiting = p.path.waiting) : Completes p q :=
  ⟨.of_loader loader, .inl (by rw [Part.waitingAccess, Part.waitingAccess, waiting])⟩

theorem close (before p : Part) : Completes p (closeEvent before p) :=
  of_path (by simp) (by rw [closeEvent_path])

end Completes

theorem finishTransfer_loader (t : Transfer) (s : State) : (finishTransfer t s).part.loader = s.part.loader := by
  unfold finishTransfer
  cases t.who with
  | lineSender => simp only [State.onPart_part]; split <;> simp
  | scanner => simp only [State.onPart_part]; split <;> simp
  | statusWriter => cases s.part.status.write <;> simp
  | slipWriter => simp
  | dispatcher => simp

theorem regrant_completes (s : State) : Completes s.part (regrant s).part := by
  have served {w : Waiting} (waiting : s.part.path.waiting = some w) :
      Completes s.part (grantHost w.access s).part := by
    have asked : s.part.waitingAccess = some w.access := by simp [Part.waitingAccess, waiting]
    have answered : (grantHost w.access s).part.waitingAccess = none := by
      simp [Part.waitingAccess, grantHost_waiting]
    exact ⟨asked ▸ grantHost_opens s w.access, .inr answered⟩
  unfold regrant
  split
  · exact .of_path (by simp) (by rw [State.onPart_part, grantIdle_path])
  case h_2 w waiting =>
    split
    · exact served waiting
    · split
      · exact ⟨.of_loader (by simp), .inl (by simp [Part.waitingAccess, waiting])⟩
      · exact served waiting

theorem completeTransfer_completes (s : State) : Completes s.part (completeTransfer s).part := by
  unfold completeTransfer
  split
  · exact .refl _
  · have released : Completes s.part
        ((freePort s).onPart fun p => p.onPath fun m => { m with wait := false }).part := .of_path rfl rfl
    exact (released.trans (regrant_completes _)).trans (.close _ _)
  case h_3 t _ =>
    have freed : Completes s.part (freePort s).part := .of_path rfl rfl
    have finished : Completes (freePort s).part (finishTransfer t (freePort s)).part :=
      .of_path (finishTransfer_loader t _) (congrArg Prod.snd (finishTransfer_access t (freePort s)))
    exact ((freed.trans finished).trans (regrant_completes _)).trans (.close _ _)

theorem freeBus_completes (n : Nat) (s : State) : Completes s.part (freeBus n s).part := by
  induction n generalizing s with
  | zero => exact .refl _
  | succ n ih =>
    simp only [freeBus]
    split
    · exact (completeTransfer_completes s).trans (ih _)
    · exact .refl _

theorem arrive_opens (s : State) (a : HostAccess) : Opens (some a) s.part (arrive a s).part := by
  unfold arrive
  split
  · exact .of_loader rfl
  · exact (grantHost_opens s a).trans (.of_loader (by simp))

/-- A host access opens a CLOSED device when it is a CLEAR, or when one that waited is (R26). -/
theorem hostAccess_opens (s : State) (a : HostAccess) :
    Opens (some a) s.part (hostAccess a s).part ∨ Opens s.part.waitingAccess s.part (hostAccess a s).part := by
  have free := (freeBus_completes 3 s).opens
  have arrived := arrive_opens (freeBus 3 s) a
  have accepted := arrived.accepted.trans free.accepted
  rcases free.device with kept | ⟨closed, opened, asked⟩
  · left
    exact Opens.trans ⟨free.accepted, .inl kept⟩ arrived
  · right
    have stands := arrived.device.resolve_right fun ⟨h, _⟩ => by simp [opened] at h
    exact ⟨accepted, .inr ⟨closed, stands.trans opened, asked⟩⟩

/-! ## The loader at a command -/

theorem resetMachine_loader (s : State) : (resetMachine s).part.loader = Part.reset.loader := by
  simp only [resetMachine]
  split
  case h_1 w _ => cases w.access <;> rfl
  · rfl
  · rfl

theorem dispatchPending_loader (p : Part) : (dispatchPending p).loader = p.loader := by simp

/-- The loader after an image byte: still in LOADING, PASS_ONLY without settings, or CLOSED with them (R23, R24). -/
theorem takeImageByte_device {p : Part} (loading : p.loader.device = .loading) (b : Byte) :
    let q := takeImageByte b p
    (q.loader.device = .loading ∧ q.loader.accepted = p.loader.accepted) ∨
      (q.loader.device = .passOnly ∧ q.loader.accepted = p.loader.accepted) ∨
      (q.loader.device = .closed ∧ q.loader.accepted.isSome = true) := by
  have refused (q : Part) : (refuseImage q).loader.device = .passOnly ∧
      (refuseImage q).loader.accepted = q.loader.accepted := ⟨rfl, rfl⟩
  have joined : (p.onLoader fun l => l.addByte b).loader.accepted = p.loader.accepted := rfl
  simp only [takeImageByte]
  split
  · exact .inr (.inl (refused _))
  · split
    · exact .inl ⟨loading, joined⟩
    · split
      · exact .inr (.inr ⟨rfl, rfl⟩)
      · exact .inr (.inl (refused _))

/-- The moves of the device state at a command (R17), with the settings in force (R24). -/
inductive DeviceMove (c : Instr) (s : State) (q : Part) : Prop
  | opens (asked : Option HostAccess) (opens : Opens asked s.part q)
      (named : asked = none ∨ asked = accessOf s.part c ∨ asked = s.part.waitingAccess)
  | resets (command : c = .reset) (device : q.loader.device = .loading) (accepted : q.loader.accepted = none)
  | refuses (b : Byte) (command : c = .imageByteReceived b) (loading : s.part.loader.device = .loading)
      (device : q.loader.device = .passOnly) (accepted : q.loader.accepted = s.part.loader.accepted)
  | accepts (b : Byte) (command : c = .imageByteReceived b) (loading : s.part.loader.device = .loading)
      (device : q.loader.device = .closed) (accepted : q.loader.accepted.isSome = true)

theorem Moved.deviceMove {c : Instr} {s t : State} (moved : Moved c s t) : DeviceMove c s t.part := by
  have stands {q : Part} (accepted : q.loader.accepted = s.part.loader.accepted)
      (device : q.loader.device = s.part.loader.device) : DeviceMove c s q :=
    .opens none ⟨accepted, .inl device⟩ (.inl rfl)
  cases moved with
  | counts q counted => exact stands counted.accepted counted.device
  | event q _ loader => exact stands (by simp [loader]) (by simp [loader])
  | fetch _ => exact stands (by simp) (by simp)
  | dispatch pins => exact stands (by simp) (by simp)
  | image b command loading =>
    have closed : (closeEvent s.part (takeImageByte b s.part)).loader = (takeImageByte b s.part).loader := by simp
    rcases takeImageByte_device loading b with ⟨device, accepted⟩ | ⟨device, accepted⟩ | ⟨device, accepted⟩
    · exact stands ((congrArg _ closed).trans accepted) ((congrArg _ closed).trans (device.trans loading.symm))
    · exact .refuses b command loading ((congrArg _ closed).trans device) ((congrArg _ closed).trans accepted)
    · exact .accepts b command loading (by rw [closed, device]) (by rw [closed, accepted])
  | complete => exact .opens _ (completeTransfer_completes s).opens (.inr (.inr rfl))
  | access a _ asked =>
    rcases hostAccess_opens s a with opens | opens
    · exact .opens _ opens (.inr (.inl asked.symm))
    · exact .opens _ opens (.inr (.inr rfl))
  | reset command =>
    exact .resets command (congrArg Loader.device (resetMachine_loader s))
      (congrArg Loader.accepted (resetMachine_loader s))

theorem DeviceMove.acceptedPlaced {c : Instr} {s : State} {q : Part} (move : DeviceMove c s q)
    (h : s.part.acceptedPlaced = true) : q.acceptedPlaced = true := by
  cases move with
  | opens asked opens _ => exact opens.acceptedPlaced.trans h
  | resets _ device accepted => simp [Part.acceptedPlaced, Part.placed, device, accepted]
  | refuses b _ loading device accepted =>
    simpa [Part.acceptedPlaced, Part.placed, device, accepted, loading] using h
  | accepts b _ _ device accepted => simp [Part.acceptedPlaced, Part.placed, device, accepted]

/-- Settles O9: every command but RESET and an image byte leaves the device or opens it by a CLEAR. -/
theorem deviceStateMovesOnlyByItsTable : Obligations.DeviceStateMovesOnlyByItsTable := by
  unfold Obligations.DeviceStateMovesOnlyByItsTable
  refine ⟨fun c s t answered => ?_, fun p => ?_⟩
  · have move := (moved_of_exec answered).deviceMove
    refine ⟨?_, move.acceptedPlaced⟩
    cases move with
    | opens asked opens named =>
      refine opens.device.imp_right fun ⟨closed, opened, clear⟩ => .inr (.inr ⟨closed, opened, ?_⟩)
      rcases named with rfl | rfl | rfl
      · cases clear
      · exact .inl clear
      · exact .inr clear
    | resets command device _ => exact .inr (.inl ⟨command, device⟩)
    | refuses b command loading device _ => exact .inr (.inr (.inl ⟨loading, ⟨b, command⟩, .inr device⟩))
    | accepts b command loading device _ => exact .inr (.inr (.inl ⟨loading, ⟨b, command⟩, .inl device⟩))
  · have beat := Counted.idleBeat p
    exact ⟨beat.device, by simp [Part.acceptedPlaced]⟩

theorem mem_of_firstDue {list : List (Bool × Instr)} {c : Instr} (first : firstDue list = some c) :
    ∃ due, (due, c) ∈ list := by
  induction list with
  | nil => cases first
  | cons entry rest ih =>
    obtain ⟨due, named⟩ := entry
    cases due with
    | true =>
      cases first
      exact ⟨true, .head _⟩
    | false =>
      obtain ⟨due, mem⟩ := ih first
      exact ⟨due, .tail _ mem⟩

/-- RESET is a command of the host's side: none falls due by itself. -/
theorem nextDue_ne_reset {p : Part} {c : Instr} (due : p.nextDue = some c) : c ≠ .reset := by
  simp only [Part.nextDue] at due
  split at due
  · cases due
  · obtain ⟨_, mem⟩ := mem_of_firstDue due
    rintro rfl
    simp [Part.dueStarts, Part.dueTimeouts, Part.dueSlots, Part.dueCounts] at mem

/-- Settles O8: a command that moves the device of a placed part moves it from CLOSED to OPEN. -/
theorem settingsStandUntilReset : Obligations.SettingsStandUntilReset := by
  unfold Obligations.SettingsStandUntilReset
  have stands {c : Instr} {s t : State} (moved : Moved c s t) (not_reset : c ≠ .reset)
      (placed : s.part.placed = true) :
      t.part.loader.accepted = s.part.loader.accepted ∧ t.part.placed = true := by
    cases moved.deviceMove with
    | opens asked opens _ => exact ⟨opens.accepted, opens.placed.trans placed⟩
    | resets command _ _ => exact absurd command not_reset
    | refuses b _ loading _ _ => simp [Part.placed, loading] at placed
    | accepts b _ loading _ _ => simp [Part.placed, loading] at placed
  refine ⟨fun c s t not_reset placed answered => stands (moved_of_exec answered) not_reset placed,
    fun s t idle placed stepped => ?_⟩
  unfold step at stepped
  rw [idle] at stepped
  cases due : s.part.nextDue with
  | some c =>
    rw [due] at stepped
    exact stands (moved_of_exec stepped) (nextDue_ne_reset due) placed
  | none =>
    rw [due] at stepped
    obtain rfl := Host.Outcome.next.inj stepped
    exact stands (c := .tickCounterWrap) (.counts _ (.idleBeat s.part)) (by simp) placed

end Sys2Proof.Machine
end

section
/-! What a command leaves at the close of its event, and the host accesses that are served at once (R1 to R7, R11). -/

namespace Sys2Proof.Machine

open Sys2Proof.Claims (answers ends endsIn leaves stores takes hostPort quiet writable sameBut)

/-! ## The work in hand

What the dispatcher has in hand, as far as the close of an event looks at it. -/

/-- A job but for its first cause and its tally. -/
def Job.sides (j : Job) : JobSpec × Side × Side := (j.spec, j.scannerSide, j.senderSide)

/-- Fetch, pending slot, running jobs and the length of the slip queue. -/
def Dispatcher.work (d : Dispatcher) :
    Option Fetch × Option PendingJob × Option (JobSpec × Side × Side) × Option (JobSpec × Side × Side) × Nat :=
  (d.fetch, d.pendingJob, d.scanJob.map Job.sides, d.relayJob.map Job.sides, d.slipQueue.length)

section
variable {p q : Part}

theorem isSome_of_sides {a b : Option Job} (h : b.map Job.sides = a.map Job.sides) : b.isSome = a.isSome := by
  have := congrArg Option.isSome h
  simpa using this

theorem over_of_sides {a b : Option Job} (h : b.map Job.sides = a.map Job.sides) :
    b.any Job.over = a.any Job.over := by
  cases a <;> cases b <;> simp_all [Job.sides, Job.over]

theorem kind_of_sides {a b : Option Job} (h : b.map Job.sides = a.map Job.sides) :
    b.map (fun j => j.spec.kind) = a.map (fun j => j.spec.kind) := by
  have := congrArg (Option.map fun s => s.1.kind) h
  simpa [Function.comp_def, Job.sides] using this

theorem Part.senderSlot_eq (p : Part) : p.senderSlot =
    if p.disp.relayJob.isSome then some .relay
    else if p.disp.scanJob.map (fun j => j.spec.kind) = some .live then some .scan else none := by
  unfold Part.senderSlot
  cases p.disp.relayJob <;> cases p.disp.scanJob <;> simp

theorem Part.jobOver_eq (p : Part) (slot : JobSlot) : p.jobOver slot = (p.jobAt slot).any Job.over := by
  unfold Part.jobOver
  cases p.jobAt slot <;> rfl

theorem jobOver_of_work (work : q.disp.work = p.disp.work) (slot : JobSlot) : q.jobOver slot = p.jobOver slot := by
  simp only [Dispatcher.work, Prod.mk.injEq] at work
  obtain ⟨-, -, scanJob, relayJob, -⟩ := work
  rw [Part.jobOver_eq, Part.jobOver_eq]
  cases slot
  · exact over_of_sides scanJob
  · exact over_of_sides relayJob

theorem jobDemands_of_work (work : q.disp.work = p.disp.work) (d : Demands) : q.jobDemands d = p.jobDemands d := by
  simp only [Dispatcher.work, Prod.mk.injEq] at work
  obtain ⟨-, -, scanJob, -, -⟩ := work
  rw [Part.jobDemands, Part.jobDemands, isSome_of_sides scanJob]

theorem senderSlot_of_work (work : q.disp.work = p.disp.work) : q.senderSlot = p.senderSlot := by
  simp only [Dispatcher.work, Prod.mk.injEq] at work
  obtain ⟨-, -, scanJob, relayJob, -⟩ := work
  rw [Part.senderSlot_eq, Part.senderSlot_eq, isSome_of_sides relayJob, kind_of_sides scanJob]

theorem gatePasses_of_work (opened : q.isOpen = p.isOpen) (work : q.disp.work = p.disp.work) (r : PendingJob) :
    q.gatePasses r = p.gatePasses r := by
  have slot := senderSlot_of_work work
  simp only [Dispatcher.work, Prod.mk.injEq] at work
  obtain ⟨-, -, scanJob, relayJob, queue⟩ := work
  have scanning := isSome_of_sides scanJob
  have relaying := isSome_of_sides relayJob
  have resources : q.resourcesFree r.spec.kind = p.resourcesFree r.spec.kind := by
    cases r.spec.kind <;> simp [Part.resourcesFree, slot, ← Option.not_isSome, scanning, relaying]
  have load : q.slipLoad = p.slipLoad := by simp only [Part.slipLoad, Part.runningJobs, queue, scanning, relaying]
  simp only [Part.gatePasses, Part.roomForSlip_eq, opened, load, resources]

theorem awaitsDispatch_of_work (opened : q.isOpen = p.isOpen) (drum : q.servo.drum = p.servo.drum)
    (work : q.disp.work = p.disp.work) : q.awaitsDispatch = p.awaitsDispatch := by
  have pendingJob : q.disp.pendingJob = p.disp.pendingJob := congrArg (fun w => w.2.1) work
  simp only [Part.awaitsDispatch, drum, pendingJob, gatePasses_of_work opened work]

/-- An update that leaves the device state, the servo and the work in hand leaves the part settled. -/
theorem Part.settled_of_work (opened : q.isOpen = p.isOpen) (servo : q.servo = p.servo)
    (work : q.disp.work = p.disp.work) : q.settled = p.settled := by
  have fetch : q.disp.fetch = p.disp.fetch := congrArg Prod.fst work
  have pendingJob : q.disp.pendingJob = p.disp.pendingJob := congrArg (fun w => w.2.1) work
  simp only [Part.settled, jobOver_of_work work, awaitsDispatch_of_work opened (congrArg Servo.drum servo) work, servo,
    Part.drumHasJob, jobDemands_of_work work, fetch, pendingJob]

end

/-! ## What a command leaves -/

section
variable {c : Instr} {s : State} {q : Part}

/-- On a settled part with the demand in force as it was, the close of an event marks changes and grants. -/
theorem closeEvent_ends {before q : Part} (settled : q.settled = true)
    (found : q.servo.demands.inForce = before.servo.demands.inForce) : closeEvent before q = ends before q :=
  closeEvent_settled settled found.symm

/-- The close of an event that leaves the servo, and the work in hand, as they were. -/
theorem closeEvent_of_work {before q : Part} (settled : before.settled = true) (opened : q.isOpen = before.isOpen)
    (servo : q.servo = before.servo) (work : q.disp.work = before.disp.work) :
    closeEvent before q = ends before q :=
  closeEvent_ends ((Part.settled_of_work opened servo work).trans settled) (by rw [servo])

theorem endsIn_of_exec (run : exec c s = .next (s.onPart fun _ => q)) : endsIn c s q :=
  ⟨_, run, rfl, rfl, fun _ => rfl⟩

theorem leaves_of_exec (run : exec c s = .next (s.onPart fun p => closeEvent p q))
    (event : closeEvent s.part q = ends s.part q) : leaves c s q :=
  endsIn_of_exec (run.trans (by rw [← event]; rfl))

end

/-! ## A host access on an idle port -/

section
variable {s : State}

theorem State.busIdle_iff : s.busIdle = true ↔ s.part.path.port = .idle ∧ s.part.path.waiting = none := by
  simp [State.busIdle]

/-- The part at the grant of the port to the host. -/
def Part.hosted (p : Part) : Part := { p with path := hostPort p }

@[simp] theorem Part.hosted_path (p : Part) : p.hosted.path = hostPort p := rfl
@[simp] theorem Part.hosted_disp (p : Part) : p.hosted.disp = p.disp := rfl
@[simp] theorem Part.hosted_servo (p : Part) : p.hosted.servo = p.servo := rfl
@[simp] theorem Part.hosted_scanner (p : Part) : p.hosted.scanner = p.scanner := rfl
@[simp] theorem Part.hosted_sender (p : Part) : p.hosted.sender = p.sender := rfl
@[simp] theorem Part.hosted_pins (p : Part) : p.hosted.pins = p.pins := rfl
@[simp] theorem Part.hosted_placed (p : Part) : p.hosted.placed = p.placed := rfl
@[simp] theorem Part.hosted_settings (p : Part) : p.hosted.settings = p.settings := rfl
@[simp] theorem Part.hosted_isOpen (p : Part) : p.hosted.isOpen = p.isOpen := rfl

theorem grantHost_idle (idle : s.busIdle = true) (a : HostAccess) :
    grantHost a s = serveAccess a (s.onPart Part.hosted) := by
  obtain ⟨-, waiting⟩ := State.busIdle_iff.mp idle
  have granted : (s.part.onPath fun m => { m with port := .host, waiting := none }) = s.part.hosted := by
    simp only [Part.onPath, Part.hosted, hostPort, ← waiting]
  rw [grantHost, State.onPart, granted]
  rfl

/-- A host read on an idle port (R1, R6). -/
theorem leaves_of_read {c : Instr} {x : Nat} {q : Part} (idle : s.busIdle = true)
    (run : exec c s = .next (hostAccess (.read x) s))
    (event : closeEvent s.part (serveRead x (s.onPart Part.hosted)).part = ends s.part q) : leaves c s q := by
  rw [hostAccess_idle idle, grantHost_idle idle] at run
  exact ⟨_, run, event, by simp [serveAccess, State.onPart], fun _ => rfl⟩

/-- A host write that is forwarded on an idle port (R2, R4, R5). -/
theorem exec_forwarded {c : Instr} {x : Nat} {b : Byte} (idle : s.busIdle = true) (forwarded : s.part.drops x = false)
    (run : exec c s = .next (hostAccess (.write x b) s)) :
    exec c s = .next ⟨closeEvent s.part (if s.part.placed then snoopWrite x b s.part.hosted else s.part.hosted),
      s.ram.write x b, s.pending⟩ := by
  have kept : (s.onPart Part.hosted).part.drops x = false := forwarded
  have served : serveWrite x b (s.onPart Part.hosted) =
      ⟨if s.part.placed then snoopWrite x b s.part.hosted else s.part.hosted, s.ram.write x b, s.pending⟩ := by
    simp only [serveWrite, kept]
    rfl
  rw [run, hostAccess_idle idle, grantHost_idle idle, serveAccess, served]
  rfl

theorem stores_of_write {c : Instr} {x : Nat} {b : Byte} {q : Part} (idle : s.busIdle = true) (wf : s.ram.wf = true)
    (forwarded : s.part.drops x = false) (run : exec c s = .next (hostAccess (.write x b) s))
    (event : closeEvent s.part (if s.part.placed then snoopWrite x b s.part.hosted else s.part.hosted) =
      ends s.part q) : stores c s x b q :=
  ⟨_, exec_forwarded idle forwarded run, event, rfl, Ram.read_write_same wf,
    fun _ other => Ram.read_write_other other⟩

/-- A write to a request byte in RAM outside the guard set (R4). -/
theorem exec_request {c : Instr} {i : Nat} {b : Byte} (w : writable i s) (placed : s.part.placed = true)
    (run : exec c s = .next (writeRequest i b s)) :
    exec c s = .next ⟨closeEvent s.part (snoopWrite (s.part.settings.requestBase + i) b s.part.hosted),
      s.ram.write (s.part.settings.requestBase + i) b, s.pending⟩ := by
  obtain ⟨⟨idle, -⟩, -, inside, unguarded⟩ := w
  have place : ramOffset (s.part.settings.requestBase + i) = s.part.settings.requestBase + i :=
    Nat.mod_eq_of_lt inside
  rw [writeRequest_placed placed, place] at run
  rw [exec_forwarded idle (by simp [Part.drops, unguarded]) run, if_pos placed]

theorem takes_of_write {c : Instr} {i : Nat} {b : Byte} {q : Part} (w : writable i s) (placed : s.part.placed = true)
    (run : exec c s = .next (writeRequest i b s))
    (event : closeEvent s.part (snoopWrite (s.part.settings.requestBase + i) b s.part.hosted) = ends s.part q) :
    takes c s i b q :=
  ⟨_, exec_request w placed run, event, rfl, Ram.read_write_same w.2.1, fun _ other => Ram.read_write_other other⟩

end

end Sys2Proof.Machine
end

section
/-! The snooped bytes and the host accesses that are served at once (R1 to R7, R11, R163, R165). -/

namespace Sys2Proof.Machine

open Sys2Proof.Claims (answers ends endsIn leaves stores takes hostPort quiet writable sameBut echoed upFrom)

/-! ## Which bytes are snooped -/

section
variable {p : Part}

/-- Outside the request block no block is told of a write (R4). -/
theorem snoopWrite_outside {x : Nat} (outside : ∀ i < 6, x ≠ p.settings.requestBase + i) (b : Byte) :
    snoopWrite x b p = p := by
  have zero : x ≠ p.settings.requestBase := outside 0 (by decide)
  simp [snoopWrite, zero, outside 1, outside 2, outside 3, outside 4, outside 5]

/-- 00H in request byte 5 is no command (R42). -/
theorem snoopWrite_null : snoopWrite (p.settings.requestBase + 5) 0 p = p := by simp [snoopWrite]

theorem snoopWrite_command {code : Byte} (code_ne : code ≠ 0) :
    snoopWrite (p.settings.requestBase + 5) code p = takeCommand code p := by
  have command : ¬ code = 0#8 := code_ne
  simp [snoopWrite, command]

theorem snoopWrite_argument (b : Byte) :
    snoopWrite (p.settings.requestBase + 4) b p = p.onPath fun m => { m with argument := b } := by simp [snoopWrite]

/-- The index bytes are taken in OPEN alone (R25). -/
theorem snoopWrite_index_closed {i : Nat} (index : i < 4) (closed : p.isOpen = false) (b : Byte) :
    snoopWrite (p.settings.requestBase + i) b p = p := by
  have four : i ≠ 4 := by omega
  have five : i ≠ 5 := by omega
  simp [snoopWrite, four, five, closed]

theorem snoopWrite_jobProducer (opened : p.isOpen = true) (b : Byte) :
    snoopWrite (p.settings.requestBase + 0) b p = takeJobProducer b p := by simp [snoopWrite, opened]

theorem snoopWrite_slipConsumer (opened : p.isOpen = true) (b : Byte) :
    snoopWrite (p.settings.requestBase + 1) b p = takeSlipConsumer b p := by simp [snoopWrite, opened]

theorem snoopWrite_feedProducer (opened : p.isOpen = true) (b : Byte) :
    snoopWrite (p.settings.requestBase + 2) b p = takeFeedProducer b p := by simp [snoopWrite, opened]

theorem snoopWrite_scanRelease (opened : p.isOpen = true) (b : Byte) :
    snoopWrite (p.settings.requestBase + 3) b p = takeScanRelease b p := by simp [snoopWrite, opened]

/-- Outside status bytes 0, 1 and 31 no block is told of a read (R6). -/
theorem snoopRead_outside {x : Nat} (outside : ∀ i ∈ [0, 1, 31], x ≠ p.settings.statusBase + i) :
    snoopRead x p = p := by
  have other (i : Nat) (h : i ∈ [0, 1, 31]) := outside i h
  have zero := other 0 (by simp)
  simp only [Nat.add_zero] at zero
  simp [snoopRead, zero, other 1, other 31]

/-- An offset of the host is in RAM. -/
theorem offset_inside (x : Offset) : x.toNat < Config.ramSize := x.isLt

end

/-! ## Accesses -/

/-- Settles O19: an unsnooped access leaves every block but the memory path. -/
theorem hostAccessesServedAtOnce : Obligations.HostAccessesServedAtOnce := by
  unfold Obligations.HostAccessesServedAtOnce
  refine ⟨fun x s ⟨idle, settled⟩ outside => ?_, fun x b s ⟨idle, settled⟩ wf unsnooped => ?_⟩
  · refine leaves_of_read idle rfl ?_
    have served : (serveRead x.toNat (s.onPart Part.hosted)).part =
        { s.part with path := { hostPort s.part with dataOut := s.ram.read x.toNat } } := by
      rw [serveRead_part]
      split
      case isTrue placed => exact snoopRead_outside (by simpa using outside placed)
      · rfl
    rw [served]
    exact closeEvent_of_work settled rfl rfl rfl
  · have forwarded : s.part.drops x.toNat = false := by
      by_cases placed : s.part.placed = true
      · simp [Part.drops, (unsnooped placed).1]
      · simp [Part.drops, placed]
    have kept : (if s.part.placed then snoopWrite x.toNat b s.part.hosted else s.part.hosted) = s.part.hosted := by
      split
      case isTrue placed =>
        rcases (unsnooped placed).2 with outside | ⟨command, rfl⟩
        · exact snoopWrite_outside (by simpa using outside) b
        · rw [command, ← Part.hosted_settings, snoopWrite_null]
      · rfl
    refine stores_of_write idle wf forwarded rfl ?_
    rw [kept]
    exact closeEvent_of_work settled rfl rfl rfl

theorem optionCovers_iff {region : Option Region} {x : Nat} :
    optionCovers region x = true ↔ ∃ r, region = some r ∧ r.start ≤ x ∧ x < r.start + r.length := by
  cases region <;> simp [optionCovers, Region.covers]

theorem GuardSet.covers_iff {g : GuardSet} {x : Nat} :
    g.covers x = true ↔ ∃ owner ∈ [g.statusBlock, g.jobEntry, g.scanFill, g.sending, g.slipEntry],
      ∃ r, owner = some r ∧ r.start ≤ x ∧ x < r.start + r.length := by
  simp only [GuardSet.covers, Bool.or_eq_true, optionCovers_iff, List.mem_cons, List.not_mem_nil, or_false,
    exists_eq_or_imp, exists_eq_left, or_assoc]

/-- Settles O20: a dropped write is a guard hit, with the block of the region left alone. -/
theorem droppedWriteActsOnTheGuardState : Obligations.DroppedWriteActsOnTheGuardState := by
  unfold Obligations.DroppedWriteActsOnTheGuardState
  refine ⟨fun x b s ⟨idle, settled⟩ placed guarded => ?_, fun p x => GuardSet.covers_iff, fun p x block low high => ?_⟩
  · have drops : (s.onPart Part.hosted).part.drops x.toNat = true := by
      simp only [Part.drops, Bool.and_eq_true]
      exact ⟨placed, guarded⟩
    have served : serveWrite x.toNat b (s.onPart Part.hosted) = (s.onPart Part.hosted).onPart (guardHit x.toNat) := by
      rw [serveWrite, if_pos drops]
    have run : exec (.hostWrite x b) s = .next (hostAccess (.write x.toNat b) s) := rfl
    rw [hostAccess_idle idle, grantHost_idle idle, serveAccess, served] at run
    exact leaves_of_exec (q := guardHit x.toNat s.part.hosted) run (closeEvent_of_work settled rfl rfl rfl)
  · refine GuardSet.covers_iff.mpr ⟨_, .head _, _, block, low, high⟩

/-- Settles O22: while the placement is in force a named command is the access to its byte. -/
theorem namedAccessesAreAccessesToTheirBytes : Obligations.NamedAccessesAreAccessesToTheirBytes := by
  unfold Obligations.NamedAccessesAreAccessesToTheirBytes
  intro b s
  have read (i : Nat) : (Host.Outcome.next (readStatus i s) : Host.Outcome State Fault Refusal) =
      if s.part.placed then exec (.hostRead (BitVec.ofNat 15 (s.part.settings.statusBase + i))) s else .next s := by
    simp only [readStatus, apply_ite Host.Outcome.next, exec, execHostRead, BitVec.toNat_ofNat]
    rfl
  have write (i : Nat) (v : Byte) : (Host.Outcome.next (writeRequest i v s) : Host.Outcome State Fault Refusal) =
      if s.part.placed then exec (.hostWrite (BitVec.ofNat 15 (s.part.settings.requestBase + i)) v) s
      else .next s := by
    simp only [writeRequest, apply_ite Host.Outcome.next, exec, execHostWrite, BitVec.toNat_ofNat]
    rfl
  simp only [List.forall_mem_cons, List.not_mem_nil, false_imp_iff, implies_true, and_true]
  exact ⟨read 0, read 1, read 31, write 0 b, write 1 b, write 2 b, write 3 b, write 4 b, write 5 _, write 5 _,
    write 5 _, write 5 _, write 5 _, write 5 _, write 5 b⟩

end Sys2Proof.Machine
end

section
/-! Index writes, the argument and the status bytes (R5, R6, R25, R28, R47, R102, R129, R163 to R166). -/

namespace Sys2Proof.Machine

open Sys2Proof.Claims (answers ends endsIn leaves stores takes hostPort quiet writable sameBut echoed upFrom)

/-! ## Distances in a ring -/

theorem ringDist_eq_upFrom {size : Nat} (a b : Nat) (positive : 0 < size) :
    (ringDist size a b : Int) = upFrom size a b := by
  have below : a % size ≤ b + size := Nat.le_trans (Nat.le_of_lt (Nat.mod_lt a positive)) (Nat.le_add_left _ _)
  have turns : (b : Int) + size - (a % size : Nat) = (b - a) + size * (1 + a / size) := by
    have split := Int.emod_add_mul_ediv (a : Int) size
    rw [Int.natCast_emod, Int.mul_add, Int.mul_one]
    omega
  simp only [ringDist, upFrom, Int.natCast_emod, Int.natCast_sub below, Int.natCast_add]
  rw [← Int.natCast_emod, turns, Int.add_mul_emod_self_left]

theorem jobSize_pos (cfg : Settings) : 0 < cfg.jobSize :=
  Nat.mul_pos (by decide) (Nat.two_pow_pos _)
theorem slipSize_pos (cfg : Settings) : 0 < cfg.slipSize :=
  Nat.mul_pos (by decide) (Nat.two_pow_pos _)
theorem scanSize_pos (cfg : Settings) : 0 < cfg.scanSize :=
  Nat.mul_pos (by decide) (Nat.two_pow_pos _)

theorem indexAccepted_iff {size : Nat} (positive : 0 < size) (consumer producer v : Nat) :
    indexAccepted size consumer producer v = true ↔ upFrom size consumer v ≤ upFrom size consumer producer := by
  simp only [indexAccepted, decide_eq_true_eq, ← ringDist_eq_upFrom _ _ positive, Int.ofNat_le]

section
variable {p : Part} {s : State}

/-! ## The request bytes taken -/

/-- A write that changes no job, no demand and no device state. -/
theorem takes_of_snoop {c : Instr} {i : Nat} {b : Byte} {q : Part} (w : writable i s) (placed : s.part.placed = true)
    (run : exec c s = .next (writeRequest i b s))
    (snooped : snoopWrite (s.part.settings.requestBase + i) b s.part.hosted = q) (opened : q.isOpen = s.part.isOpen)
    (servo : q.servo = s.part.servo) (work : q.disp.work = s.part.disp.work) : takes c s i b q :=
  takes_of_write w placed run (by rw [snooped]; exact closeEvent_of_work w.1.2 opened servo work)

/-- The index is taken modulo the ring, and one that stands cuts nothing (R28). -/
theorem takeJobProducer_eq (b : Byte) (p : Part) : takeJobProducer b p =
    { p with disp := { p.disp with
        jobProducer := b.toNat % p.settings.jobSize,
        cancelCount := if b.toNat % p.settings.jobSize = p.disp.jobProducer then p.disp.cancelCount
          else min p.disp.cancelCount
            (upFrom p.settings.jobSize p.disp.jobConsumer (b.toNat % p.settings.jobSize)).toNat } } := by
  simp only [takeJobProducer]
  split
  case isTrue stands => rw [stands]
  case isFalse moves =>
    rw [← ringDist_eq_upFrom _ _ (jobSize_pos _), Int.toNat_natCast]
    rfl

/-- Settles O24: a job producer write changes index and cancel count alone. -/
theorem jobProducerWriteIsTaken : Obligations.JobProducerWriteIsTaken := by
  unfold Obligations.JobProducerWriteIsTaken
  intro b s w opened
  exact takes_of_snoop w (isOpen_placed opened) rfl
    ((snoopWrite_jobProducer (p := s.part.hosted) opened b).trans (takeJobProducer_eq b s.part.hosted)) rfl rfl rfl

theorem takeSlipConsumer_eq (b : Byte) (p : Part) : takeSlipConsumer b p =
    if upFrom p.settings.slipSize p.disp.slipConsumer (b.toNat % p.settings.slipSize) ≤
        upFrom p.settings.slipSize p.disp.slipConsumer p.slips.producer then
      p.onDisp fun d => { d with slipConsumer := b.toNat % p.settings.slipSize }
    else countRejection p :=
  ite_congr (propext (indexAccepted_iff (slipSize_pos _) _ _ _)) (fun _ => rfl) fun _ => rfl

theorem takeScanRelease_eq (b : Byte) (p : Part) : takeScanRelease b p =
    if upFrom p.settings.scanSize p.scanner.releaseCopy (b.toNat % p.settings.scanSize) ≤
        upFrom p.settings.scanSize p.scanner.releaseCopy p.scanner.producer then
      p.onScanner fun c => { c with releaseCopy := b.toNat % p.settings.scanSize }
    else countRejection p :=
  ite_congr (propext (indexAccepted_iff (scanSize_pos _) _ _ _)) (fun _ => rfl) fun _ => rfl

/-- Settles O25: an index in ring order is taken, any other is counted. -/
theorem consumerIndicesAreJudged : Obligations.ConsumerIndicesAreJudged := by
  unfold Obligations.ConsumerIndicesAreJudged
  intro b s opened
  have placed := isOpen_placed opened
  refine ⟨fun w => ?_, fun w => ?_⟩
  · have snooped := (snoopWrite_slipConsumer (p := s.part.hosted) opened b).trans
      (takeSlipConsumer_eq b s.part.hosted)
    refine takes_of_snoop w placed rfl snooped ?_ ?_ ?_ <;> dsimp only <;> split <;> rfl
  · have snooped := (snoopWrite_scanRelease (p := s.part.hosted) opened b).trans
      (takeScanRelease_eq b s.part.hosted)
    refine takes_of_snoop w placed rfl snooped ?_ ?_ ?_ <;> dsimp only <;> split <;> rfl

/-- Settles O26: the feed index and the argument are copied, and in CLOSED an index write reaches RAM alone. -/
theorem requestBytesAreCopied : Obligations.RequestBytesAreCopied := by
  unfold Obligations.RequestBytesAreCopied
  intro b s
  refine ⟨fun w opened => ?_, fun w placed => ?_, fun closed => ?_⟩
  · exact takes_of_snoop w (isOpen_placed opened) rfl (snoopWrite_feedProducer (p := s.part.hosted) opened b) rfl rfl rfl
  · exact takes_of_snoop w placed rfl (snoopWrite_argument (p := s.part.hosted) b) rfl rfl rfl
  · have placed : s.part.placed = true := by simp [Part.placed, closed]
    have shut : s.part.isOpen = false := by simp [Part.isOpen, closed]
    have reaches {c : Instr} {i : Nat} (index : i < 4) (run : exec c s = .next (writeRequest i b s))
        (w : writable i s) : takes c s i b { s.part with path := hostPort s.part } :=
      takes_of_snoop w placed run (snoopWrite_index_closed (p := s.part.hosted) index shut b) rfl rfl rfl
    simp only [List.forall_mem_cons, List.not_mem_nil, false_imp_iff, implies_true, and_true]
    exact ⟨reaches (by decide) rfl, reaches (by decide) rfl, reaches (by decide) rfl, reaches (by decide) rfl⟩

/-! ## The status bytes read -/

/-- The part with the host on the port and a byte on D0-D7 (R1). -/
def Part.showing (p : Part) (b : Byte) : Part := { p with path := { hostPort p with dataOut := b } }

/-- A read of a status byte that lies in RAM. -/
theorem leaves_of_statusRead {c : Instr} {i : Nat} {q : Part} (calm : quiet s) (placed : s.part.placed = true)
    (inside : s.part.settings.statusBase + i < Config.ramSize) (run : exec c s = .next (readStatus i s))
    (snooped : snoopRead (s.part.settings.statusBase + i)
      (s.part.showing (s.ram.read (s.part.settings.statusBase + i))) = q)
    (opened : q.isOpen = s.part.isOpen) (servo : q.servo = s.part.servo) (work : q.disp.work = s.part.disp.work) :
    leaves c s q := by
  have place : ramOffset (s.part.settings.statusBase + i) = s.part.settings.statusBase + i := Nat.mod_eq_of_lt inside
  rw [readStatus_placed placed, place] at run
  refine leaves_of_read calm.1 run ?_
  have served : (serveRead (s.part.settings.statusBase + i) (s.onPart Part.hosted)).part = q := by
    rw [serveRead_part, ← snooped]
    exact if_pos placed
  rw [served]
  exact closeEvent_of_work calm.2 opened servo work

theorem snoopRead_first : snoopRead (p.settings.statusBase + 0) p = openWindow p := by simp [snoopRead]
theorem snoopRead_causes : snoopRead (p.settings.statusBase + 1) p = readCauses p := by simp [snoopRead]
theorem snoopRead_last : snoopRead (p.settings.statusBase + 31) p = shutWindow p := by simp [snoopRead]

/-- The expiry of a window is shown in status byte 29 alone (R160, R163). -/
theorem markChanges_expireWindow (p : Part) : markChanges p (expireWindow p) =
    { p with status := { p.status with
        window := none, forced := min 255 (p.status.forced + 1),
        dirty := p.status.dirty || decide (lowByte p.status.forced ≠ lowByte (min 255 (p.status.forced + 1))) } } := by
  have shown : statusFields p = statusFields (expireWindow p) ↔
      lowByte p.status.forced = lowByte (min 255 (p.status.forced + 1)) := by
    simp [statusFields, List.range, List.range.loop, statusByte, expireWindow, Part.onStatus, satAdd]
  simp only [markChanges, shown]
  split
  case isTrue same => simp [same, expireWindow, Part.onStatus, satAdd]
  case isFalse moved => simp [moved, expireWindow, Part.onStatus, satAdd]

/-- Settles O23: the snooped reads change the window or the pending set alone. -/
theorem statusReadsAndTheirWindow : Obligations.StatusReadsAndTheirWindow := by
  unfold Obligations.StatusReadsAndTheirWindow
  refine ⟨fun s calm placed inside => ⟨?_, ?_, ?_⟩, fun s => ⟨endsIn_of_exec rfl, fun n window => ?_⟩⟩
  · exact leaves_of_statusRead (i := 0) calm placed (by omega) rfl (snoopRead_first (p := s.part.showing _)) rfl rfl rfl
  · exact leaves_of_statusRead (i := 31) calm placed (by omega) rfl (snoopRead_last (p := s.part.showing _)) rfl rfl rfl
  · exact leaves_of_statusRead (i := 1) calm placed (by omega) rfl (snoopRead_causes (p := s.part.showing _)) rfl rfl rfl
  · refine endsIn_of_exec ?_
    rw [← markChanges_expireWindow]
    simp [exec, execReadWindowExpiry, State.onPart, window]

end

end Sys2Proof.Machine
end

section
/-! Commands that are echoed, CLEAR, and the accesses that wait (R11, R25, R26, R42, R46). -/

namespace Sys2Proof.Machine

open Sys2Proof.Claims (answers ends endsIn leaves stores takes hostPort quiet writable sameBut echoed)

section
variable {p q : Part} {s : State}

/-! ## Commands -/

/-- With no change left open, the device state has no part in settledness. -/
theorem Part.settled_of_found (settled : p.settled = true) (found : q.servo.unsettled = none)
    (servo : q.servo = p.servo) (work : q.disp.work = p.disp.work) : q.settled = true := by
  obtain ⟨jobs, lock, mark, alone, -⟩ := Part.settled_iff.mp settled
  have fetch : q.disp.fetch = p.disp.fetch := congrArg Prod.fst work
  have pendingJob : q.disp.pendingJob = p.disp.pendingJob := congrArg (fun w => w.2.1) work
  refine Part.settled_iff.mpr ⟨fun slot => (jobOver_of_work work slot).trans (jobs slot), ?_, ?_, ?_, ?_⟩
  · rwa [servo]
  · rwa [Part.drumHasJob, jobDemands_of_work work, servo]
  · rwa [Dispatcher.fetchesAlone, fetch, pendingJob]
  · simp [found]

/-- Outside OPEN no dispatch is due, and no change is left open for one (R52). -/
theorem unsettled_of_not_open (settled : p.settled = true) (shut : p.isOpen = false) : p.servo.unsettled = none := by
  obtain ⟨-, -, -, -, left⟩ := Part.settled_iff.mp settled
  rw [Option.eq_none_iff_forall_ne_some]
  intro was unsettled
  have awaits := (left was unsettled).1
  unfold Part.awaitsDispatch at awaits
  split at awaits <;> simp [Part.gatePasses, shut] at awaits

theorem echoCommand_eq (code : Byte) (result : CommandResult) (p : Part) :
    echoCommand code result p = ({ p with disp := echoed code result p.disp } : Part).raise .command := rfl

theorem takeCommand_open (opened : p.isOpen = true) (code : Byte) :
    takeCommand code p = echoCommand code (openCommand code p).1 (openCommand code p).2 := by
  simp [takeCommand, opened]

theorem takeCommand_closed (shut : p.isOpen = false) {code : Byte} (other : code ≠ 1) :
    takeCommand code p = echoCommand code .notOpen p := by
  have refused : closedCommand code p = (.notOpen, p) := if_neg other
  simp [takeCommand, shut, refused]

theorem takeCommand_clear_closed (shut : p.isOpen = false) :
    takeCommand 1 p = echoCommand 1 .done (openDevice p) := by
  have opens : closedCommand 1 p = (.done, openDevice p) := if_pos rfl
  simp only [takeCommand, shut, Bool.false_eq_true, if_false, opens]

theorem openCommand_unknown {code : Byte} (unknown : 7 ≤ code.toNat) (p : Part) :
    openCommand code p = (.unknown, p) := by
  unfold openCommand
  split
  case h_7 => rfl
  all_goals omega

/-- A command at a quiet state: `q` is the part at which its echo has been made. -/
theorem takes_of_command {c : Instr} {code : Byte} (w : writable 5 s) (placed : s.part.placed = true)
    (run : exec c s = .next (writeRequest 5 code s)) (code_ne : code ≠ 0)
    (event : closeEvent s.part (takeCommand code s.part.hosted) = ends s.part q) : takes c s 5 code q :=
  takes_of_write w placed run (by
    rw [← Part.hosted_settings, snoopWrite_command code_ne, event])

/-- Settles O27: an echo changes no job, no demand and no device state, and CLEAR in CLOSED the device state alone. -/
theorem commandsThatAreOnlyEchoed : Obligations.CommandsThatAreOnlyEchoed := by
  unfold Obligations.CommandsThatAreOnlyEchoed
  intro s w
  refine ⟨fun closed => ?_, fun code opened unknown => ?_⟩
  · have placed : s.part.placed = true := by simp [Part.placed, closed]
    have shut : s.part.isOpen = false := by simp [Part.isOpen, closed]
    have refuses {c : Instr} {code : Byte} (run : exec c s = .next (writeRequest 5 code s)) (code_ne : code ≠ 0)
        (other : code ≠ 1) : takes c s 5 code (echoCommand code .notOpen s.part.hosted) := by
      refine takes_of_command w placed run code_ne ?_
      rw [takeCommand_closed (p := s.part.hosted) shut other]
      exact closeEvent_of_work w.1.2 rfl rfl rfl
    refine ⟨?_, ?_⟩
    · refine takes_of_command w placed rfl (by decide) ?_
      rw [takeCommand_clear_closed (p := s.part.hosted) shut]
      have found : s.part.servo.unsettled = none := unsettled_of_not_open w.1.2 shut
      exact closeEvent_ends (Part.settled_of_found w.1.2 found rfl rfl) rfl
    · rintro c code (named | ⟨rfl, unknown⟩)
      · simp only [List.mem_cons, Prod.mk.injEq, List.not_mem_nil, or_false] at named
        rcases named with ⟨rfl, rfl⟩ | ⟨rfl, rfl⟩ | ⟨rfl, rfl⟩ | ⟨rfl, rfl⟩ | ⟨rfl, rfl⟩
        all_goals exact refuses rfl (by decide) (by decide)
      · refine refuses rfl ?_ ?_
        all_goals rintro rfl; exact absurd unknown (by decide)
  · refine takes_of_command w (isOpen_placed opened) rfl (by rintro rfl; exact absurd unknown (by decide)) ?_
    rw [takeCommand_open (p := s.part.hosted) opened, openCommand_unknown unknown]
    exact closeEvent_of_work w.1.2 rfl rfl rfl

end

end Sys2Proof.Machine
end

section
/-! The demand in force found afresh (R52, R53), as the statements have it, and the commands that place and withdraw
holds (R45). -/

namespace Sys2Proof.Machine

open Sys2Proof.Claims (answers ends endsIn leaves stores takes hostPort quiet writable sameBut echoed driven retargeted
  lastFound)

section
variable {p q before : Part} {s : State}

/-! ## The drum at a change of the demand in force -/

/-- The lock timer starts again at a loss of LOCKED (R65). -/
def Part.timesLock (p : Part) : Bool :=
  (demandSpeed p.servo.demands.scanner).isSome && !p.scanner.enteredScan && !p.servo.noLockOffered

theorem Part.timesLock_iff : p.timesLock = true ↔ (demandSpeed p.servo.demands.scanner).isSome = true ∧
    p.scanner.enteredScan = false ∧ p.servo.noLockOffered = false := by
  simp [Part.timesLock, and_assoc]

/-- The part with the drum in a state other than LOCKED and STOPPED: from LOCKED the lock is lost (R60, R65, R90). -/
def Part.turning (p : Part) (d : DrumState) : Part :=
  let lost := p.servo.drum = .locked
  { p with
    servo := { p.servo with drum := d, lockTimer := if lost ∧ p.timesLock then 0 else p.servo.lockTimer,
                            lockRunning := if lost ∧ p.timesLock then true else p.servo.lockRunning },
    scanner := if lost then { p.scanner with armed := false } else p.scanner }

theorem setDrum_turning {d : DrumState} (turns : d = .spinup ∨ d = .locking ∨ d = .spindown) (p : Part) :
    setDrum d p = p.turning d := by
  have moved (h : p.servo.drum ≠ d) : setDrum d p =
      (if p.servo.drum = .locked then loseLock (p.onServo fun v => { v with drum := d })
        else p.onServo fun v => { v with drum := d }) := by
    rcases turns with rfl | rfl | rfl <;> simp only [setDrum, if_neg h]
  by_cases h : p.servo.drum = d
  · have unlocked : p.servo.drum ≠ .locked := by
      rw [h]
      rcases turns with rfl | rfl | rfl <;> decide
    have kept : setDrum d p = p := if_pos h
    rw [kept]
    simp only [Part.turning, unlocked, ← h, false_and, if_false]
  · rw [moved h]
    by_cases locked : p.servo.drum = .locked
    · rw [if_pos locked]
      cases timed : p.timesLock
      · have idle : (loseLock (p.onServo fun v => { v with drum := d })) =
            (p.onServo fun v => { v with drum := d }).onScanner fun c => { c with armed := false } :=
          if_neg (Bool.eq_false_iff.mp timed)
        rw [idle]
        simp only [Part.turning, timed, locked, Part.onServo, Part.onScanner, if_true, Bool.false_eq_true,
          and_false, if_false]
      · have starts : (loseLock (p.onServo fun v => { v with drum := d })) =
            ((p.onServo fun v => { v with drum := d }).onScanner fun c => { c with armed := false }).onServo fun v =>
              { v with lockTimer := 0, lockRunning := true } :=
          if_pos timed
        rw [starts]
        simp only [Part.turning, timed, locked, Part.onServo, Part.onScanner, if_true, and_self]
    · simp only [Part.turning, locked, false_and, if_false, Part.onServo]

/-! ## The demand in force found afresh -/

theorem tidyServo_of_marked (marked : p.servo.speedFaultMark = true → p.drumHasJob = true) : tidyServo p =
    p.onServo fun v => { v with lockRunning := if v.drum = .locked then false else v.lockRunning } := by
  have faults (q : Part) (h : q.servo.speedFaultMark = true → q.drumHasJob = true) :
      (if q.drumHasJob = true then q else q.onServo fun v => { v with speedFaultMark := false }) = q := by
    split
    · rfl
    · exact Part.onServo_self (clearFault_self (by simp_all))
  unfold tidyServo
  split
  case isTrue locked =>
    refine (faults (p.onServo fun v => { v with lockRunning := false }) marked).trans ?_
    simp only [Part.onServo, locked, if_true]
  case isFalse unlocked =>
    refine (faults p marked).trans ?_
    simp only [Part.onServo, unlocked, if_false]

/-- The servo as a loss of LOCKED leaves its lock timer (R65). -/
def Part.timedServo (p : Part) : Servo :=
  { p.servo with
    lockTimer := if p.servo.drum = .locked ∧ p.timesLock then 0 else p.servo.lockTimer,
    lockRunning := if p.servo.drum = .locked ∧ p.timesLock then true else p.servo.lockRunning }

/-- The scanner, disarmed where the drum was LOCKED (R90). -/
def Part.disarmed (p : Part) : Scanner :=
  if p.servo.drum = .locked then { p.scanner with armed := false } else p.scanner

theorem enterLocking_eq (p : Part) : enterLocking p =
    { p with servo := { p.timedServo with drum := .locking, integral := 0, lockCount := 0,
                                          duty := p.settings.baseDuty p.servo.target,
                                          nextDuty := p.settings.baseDuty p.servo.target },
             scanner := p.disarmed } := by
  rw [enterLocking, setDrum_turning (.inr (.inl rfl))]
  rfl

theorem enterSpinup_eq (p : Part) : enterSpinup p =
    { p with servo := { p.timedServo with drum := .spinup, goodCount := 0, duty := p.settings.spinupDuty,
                                          nextDuty := p.settings.spinupDuty },
             scanner := p.disarmed } := by
  rw [enterSpinup, setDrum_turning (.inl rfl)]
  rfl

theorem enterSpindown_eq (p : Part) : enterSpindown p =
    { p with servo := { p.timedServo with drum := .spindown, duty := 0, nextDuty := 0, goodCount := 0, lockCount := 0,
                                          outsideCount := 0, faultCount := 0, lockRunning := false },
             scanner := p.disarmed } := by
  rw [enterSpindown, setDrum_turning (.inr (.inr rfl))]
  rfl

/-- Another target on a turning drum (R53, R57). -/
theorem takeTarget_turning (speed : Nat) (turns : p.servo.drum ≠ .stopped) : takeTarget speed p =
    { p with servo := retargeted p.settings speed p.timedServo, scanner := p.disarmed } := by
  have changes : changeTarget (p.onServo fun v => { v with target := speed }) =
      { p with servo := { retargeted p.settings speed p.timedServo with quiet := p.servo.quiet },
               scanner := p.disarmed } := by
    simp only [changeTarget, enterLocking_eq, enterSpinup_eq, retargeted]
    by_cases near : p.servo.period ≠ 0 ∧
        p.servo.period ≤ Config.nominalPeriod speed + Config.nominalPeriod speed / 4
    · refine (if_pos near).trans ?_
      have same : p.timedServo.period ≠ 0 ∧
        p.timedServo.period ≤ Config.nominalPeriod speed + Config.nominalPeriod speed / 4 := near
      rw [if_pos same]
      rfl
    · refine (if_neg near).trans ?_
      have same : ¬ (p.timedServo.period ≠ 0 ∧
        p.timedServo.period ≤ Config.nominalPeriod speed + Config.nominalPeriod speed / 4) := near
      rw [if_neg same]
      rfl
  have rested : (retargeted p.settings speed p.timedServo).quiet =
      if p.servo.drum = .spindown then 0 else p.servo.quiet := by
    simp only [retargeted]
    split <;> rfl
  have takes : takeTarget speed p =
      if p.servo.drum = .spindown then clearQuiet (changeTarget (p.onServo fun v => { v with target := speed }))
      else changeTarget (p.onServo fun v => { v with target := speed }) := by
    simp only [takeTarget, Part.onServo_servo]
    cases drum : p.servo.drum <;> simp_all
  rw [takes, changes]
  by_cases quiet : p.servo.drum = .spindown
  · rw [if_pos quiet] at rested
    rw [if_pos quiet, clearQuiet, Part.onServo, ← rested]
  · rw [if_neg quiet] at rested
    rw [if_neg quiet, ← rested]

/-- A first target on a STOPPED drum starts it in SPINUP (R53, R54). -/
theorem takeTarget_stopped (speed : Nat) (stopped : p.servo.drum = .stopped) : takeTarget speed p =
    { p with servo := { p.servo with target := speed, drum := .spinup, goodCount := 0, quiet := 0,
                                     duty := p.settings.spinupDuty, nextDuty := p.settings.spinupDuty } } := by
  have starts : takeTarget speed p = clearQuiet (enterSpinup (p.onServo fun v => { v with target := speed })) := by
    simp only [takeTarget, Part.onServo_servo, stopped]
  rw [starts, enterSpinup_eq]
  simp [clearQuiet, Part.onServo, Part.timedServo, Part.disarmed, stopped, Part.settings]

theorem dropTarget_eq (p : Part) : dropTarget p =
    if p.servo.drum = .stopped ∨ p.servo.drum = .spindown then p else enterSpindown p := by
  unfold dropTarget
  cases drum : p.servo.drum <;> simp

theorem tidyServo_unlocked (unlocked : p.servo.drum ≠ .locked)
    (marked : p.servo.speedFaultMark = true → p.drumHasJob = true) : tidyServo p = p := by
  rw [tidyServo_of_marked marked]
  exact Part.onServo_self (by rw [if_neg unlocked])

/-- The restart of the lock timer at a loss of LOCKED, as the statements have it. -/
theorem timesLock_and_iff : (p.servo.drum = .locked ∧ p.timesLock = true) ↔
    p.servo.drum = .locked ∧ (demandSpeed p.servo.demands.scanner).isSome = true ∧
      p.scanner.enteredScan = false ∧ p.servo.noLockOffered = false := by
  rw [Part.timesLock_iff]

/-- The part with no change of the demand in force left open. -/
def Part.found (p : Part) : Part := p.onServo fun v => { v with unsettled := none }

section
variable {was : Option Nat} (changed : was ≠ p.servo.demands.inForce)
include changed

theorem driven_taken {speed : Nat} (demand : p.servo.demands.inForce = some speed) :
    driven was p = takeTarget speed p.found := by
  simp only [driven]
  rw [if_neg changed, demand]
  by_cases stopped : p.servo.drum = .stopped
  · exact (if_pos stopped).trans (takeTarget_stopped (p := p.found) speed stopped).symm
  · refine (if_neg stopped).trans ?_
    rw [takeTarget_turning (p := p.found) speed stopped]
    simp only [Part.timedServo, Part.disarmed, timesLock_and_iff]
    rfl

theorem driven_dropped (demand : p.servo.demands.inForce = none) : driven was p = dropTarget p.found := by
  simp only [driven]
  rw [if_neg changed, demand, dropTarget_eq]
  by_cases still : p.servo.drum = .stopped ∨ p.servo.drum = .spindown
  · exact (if_pos still).trans (if_pos (c := p.found.servo.drum = .stopped ∨ p.found.servo.drum = .spindown) still).symm
  · refine (if_neg still).trans (.trans ?_
      (if_neg (c := p.found.servo.drum = .stopped ∨ p.found.servo.drum = .spindown) still).symm)
    rw [enterSpindown_eq]
    simp only [Part.timedServo, Part.disarmed, timesLock_and_iff]
    rfl

end

theorem takeTarget_unlocked (speed : Nat) (p : Part) : (takeTarget speed p).servo.drum ≠ .locked := by
  by_cases stopped : p.servo.drum = .stopped
  · rw [takeTarget_stopped speed stopped]
    simp
  · rw [takeTarget_turning speed stopped]
    simp only [retargeted]
    split <;> simp

theorem dropTarget_unlocked (p : Part) : (dropTarget p).servo.drum ≠ .locked := by
  rw [dropTarget_eq]
  split
  case isTrue still => rcases still with h | h <;> simp [h]
  · simp [enterSpindown_eq]

theorem retargeted_keeps (cfg : Settings) (speed : Nat) (v : Servo) :
    (retargeted cfg speed v).speedFaultMark = v.speedFaultMark ∧ (retargeted cfg speed v).demands = v.demands := by
  simp only [retargeted]
  split <;> exact ⟨rfl, rfl⟩

/-- What the servo does leaves the speed-fault mark (R64) and the demands. -/
theorem actOnDemand_mark_demands (was : Option Nat) (p : Part) :
    (actOnDemand was p).servo.speedFaultMark = p.servo.speedFaultMark ∧
      (actOnDemand was p).servo.demands = p.servo.demands := by
  have takes (speed : Nat) (p : Part) : (takeTarget speed p).servo.speedFaultMark = p.servo.speedFaultMark ∧
      (takeTarget speed p).servo.demands = p.servo.demands := by
    by_cases stopped : p.servo.drum = .stopped
    · rw [takeTarget_stopped speed stopped]
      exact ⟨rfl, rfl⟩
    · rw [takeTarget_turning speed stopped]
      exact retargeted_keeps _ _ _
  have drops (p : Part) : (dropTarget p).servo.speedFaultMark = p.servo.speedFaultMark ∧
      (dropTarget p).servo.demands = p.servo.demands := by
    rw [dropTarget_eq]
    split
    · exact ⟨rfl, rfl⟩
    · rw [enterSpindown_eq]
      exact ⟨rfl, rfl⟩
  simp only [actOnDemand]
  split
  · exact ⟨rfl, rfl⟩
  · split
    · exact takes _ p.found
    · exact drops p.found

/-- What the servo does once at an event, as the statements have it (R52, R53, R64, R65). -/
theorem tidyServo_actOnDemand (was : Option Nat) (marked : p.servo.speedFaultMark = true → p.drumHasJob = true) :
    tidyServo (actOnDemand was p) = driven was p := by
  have kept : (actOnDemand was p).servo.speedFaultMark = true → (actOnDemand was p).drumHasJob = true := by
    obtain ⟨mark, demands⟩ := actOnDemand_mark_demands was p
    rw [mark, Part.drumHasJob, demands, Part.jobDemands, (actOnDemand_frame p was).2.2.1]
    exact marked
  by_cases same : was = p.servo.demands.inForce
  · have nothing : actOnDemand was p = p.found := if_pos same
    rw [nothing] at kept ⊢
    rw [tidyServo_of_marked kept, driven, if_pos same]
    rfl
  · have acts : actOnDemand was p =
        match p.found.servo.demands.inForce with
        | some speed => takeTarget speed p.found
        | none => dropTarget p.found := if_neg same
    cases demand : p.servo.demands.inForce with
    | none =>
      have drops : actOnDemand was p = dropTarget p.found := by rw [acts, show p.found.servo.demands.inForce = _ from demand]
      rw [drops] at kept ⊢
      rw [tidyServo_unlocked (dropTarget_unlocked _) kept, driven_dropped same demand]
    | some speed =>
      have takes : actOnDemand was p = takeTarget speed p.found := by rw [acts, show p.found.servo.demands.inForce = _ from demand]
      rw [takes] at kept ⊢
      rw [tidyServo_unlocked (takeTarget_unlocked _ _) kept, driven_taken same demand]

end

end Sys2Proof.Machine
end

section
/-! CLEAR in OPEN (R46), SPIN and RELEASE_SPIN (R45), and the close of an event at which the demand in force may
change (R52). -/

namespace Sys2Proof.Machine

open Sys2Proof.Claims (answers ends endsIn leaves stores takes hostPort quiet writable sameBut echoed driven retargeted
  lastFound stoppedTimer)

section
variable {p q before : Part} {s : State} {was : Option Nat}

/-! ## The close of an event at which the servo acts -/

theorem finishJobs_of_running (running : ∀ slot, p.jobOver slot = false) : finishJobs p = p := by
  unfold finishJobs
  rw [if_neg (by simp [running .scan]), finishJob_running .scan (running .scan),
    finishJob_running .relay (running .relay)]

/-- With no dispatch due the servo acts at the event (R52, R53). -/
theorem closeEvent_acts (running : ∀ slot, q.jobOver slot = false) (none_due : q.awaitsDispatch = false)
    (marked : q.servo.speedFaultMark = true → q.drumHasJob = true) :
    closeEvent before q = ends before (driven (foundBefore before q) q) := by
  rw [closeEvent, finishJobs_of_running running, none_due, settleDemand, if_neg Bool.false_ne_true,
    tidyServo_actOnDemand _ marked]
  rfl

/-- With a dispatch due the change of the demand in force is left open for it (log 52). -/
theorem closeEvent_leaves (running : ∀ slot, q.jobOver slot = false) (due : q.awaitsDispatch = true)
    (marked : q.servo.speedFaultMark = true → q.drumHasJob = true)
    (lock : q.servo.drum = .locked → q.servo.lockRunning = false) :
    closeEvent before q = ends before (leaveDemand (foundBefore before q) q) := by
  have kept : tidyServo (leaveDemand (foundBefore before q) q) = leaveDemand (foundBefore before q) q := by
    rw [tidyServo_of_marked (p := leaveDemand (foundBefore before q) q) marked]
    refine Part.onServo_self ?_
    split
    case isTrue locked => exact stopLock_self (lock locked)
    · rfl
  rw [closeEvent, finishJobs_of_running running, due, settleDemand, if_pos rfl, kept]
  rfl

/-- Nothing is left open where no dispatch is due (R52). -/
theorem unsettled_of_none_due (settled : p.settled = true) (none_due : p.awaitsDispatch = false) :
    p.servo.unsettled = none := by
  obtain ⟨-, -, -, -, left⟩ := Part.settled_iff.mp settled
  rw [Option.eq_none_iff_forall_ne_some]
  intro was unsettled
  have due := (left was unsettled).1
  rw [none_due] at due
  cases due

theorem Part.found_self (found : p.servo.unsettled = none) : p.found = p := Part.onServo_self (setUnsettled_self found)

/-- The same demand in force leaves a settled drum as it is (R52). -/
theorem driven_same (found : p.servo.unsettled = none) (lock : p.servo.drum = .locked → p.servo.lockRunning = false) :
    driven p.servo.demands.inForce p = p := by
  have kept : driven p.servo.demands.inForce p =
      p.found.onServo fun v => { v with lockRunning := if v.drum = .locked then false else v.lockRunning } := if_pos rfl
  rw [kept, Part.found_self found]
  refine Part.onServo_self ?_
  split
  case isTrue locked => exact stopLock_self (lock locked)
  · rfl

/-- The servo changes servo and scanner alone. -/
theorem driven_frame (was : Option Nat) (p : Part) :
    driven was p = { p with servo := (driven was p).servo, scanner := (driven was p).scanner } := by
  simp only [driven]
  split
  · rfl
  · split
    · split <;> rfl
    · split <;> rfl

theorem driven_demands (was : Option Nat) (p : Part) : (driven was p).servo.demands = p.servo.demands := by
  simp only [driven]
  split
  · rfl
  · split
    · split
      · rfl
      · exact (retargeted_keeps _ _ _).2
    · split <;> rfl

/-- The servo acts alike before and after a raise. -/
theorem driven_raise (was : Option Nat) (p : Part) (c : Attention) :
    driven was (p.raise c) = (driven was p).raise c := by
  by_cases same : was = p.servo.demands.inForce
  · have raised : driven was (p.raise c) = (p.raise c).found.onServo fun v =>
      { v with lockRunning := if v.drum = .locked then false else v.lockRunning } := if_pos same
    have plain : driven was p = p.found.onServo fun v =>
      { v with lockRunning := if v.drum = .locked then false else v.lockRunning } := if_pos same
    rw [raised, plain]
    rfl
  · cases demand : p.servo.demands.inForce with
    | none =>
      rw [driven_dropped (p := p.raise c) same demand, driven_dropped same demand]
      by_cases still : p.servo.drum = .stopped ∨ p.servo.drum = .spindown
      · have raised : dropTarget (p.raise c).found = (p.raise c).found := (dropTarget_eq _).trans (if_pos still)
        have plain : dropTarget p.found = p.found := (dropTarget_eq _).trans (if_pos still)
        rw [raised, plain]
        rfl
      · have raised : dropTarget (p.raise c).found = enterSpindown (p.raise c).found :=
          (dropTarget_eq _).trans (if_neg still)
        have plain : dropTarget p.found = enterSpindown p.found := (dropTarget_eq _).trans (if_neg still)
        rw [raised, plain, enterSpindown_eq, enterSpindown_eq]
        rfl
    | some speed =>
      rw [driven_taken (p := p.raise c) same demand, driven_taken same demand]
      by_cases stopped : p.servo.drum = .stopped
      · rw [takeTarget_stopped (p := (p.raise c).found) speed stopped, takeTarget_stopped (p := p.found) speed stopped]
        rfl
      · rw [takeTarget_turning (p := (p.raise c).found) speed stopped, takeTarget_turning (p := p.found) speed stopped]
        rfl

/-! ## Holds -/

/-- The demand in force is the first of the list that is present and not set aside (R52). -/
theorem inForce_eq_head (d : Demands) : d.inForce =
    ([d.scanner, d.live, d.carry, d.hold].filterMap fun x =>
      x.bind fun e => if e.aside then none else some e.speed).head? := by
  have speed (x : Option Demand) : (x.bind fun e => if e.aside then none else some e.speed) = demandSpeed x := by
    cases x <;> rfl
  simp only [speed, Demands.inForce, List.filterMap]
  cases demandSpeed d.scanner <;> cases demandSpeed d.live <;> cases demandSpeed d.carry <;>
    cases demandSpeed d.hold <;> rfl

/-- A hold comes into force only where none of the other demands is (R52). -/
theorem inForce_hold (d : Demands) (code : Nat) :
    ({ d with hold := some ⟨code, false⟩ } : Demands).inForce = d.inForce ∨
      ({ d with hold := some ⟨code, false⟩ } : Demands).inForce = some code ∧ demandSpeed d.scanner = none := by
  have held : demandSpeed (some ⟨code, false⟩) = some code := rfl
  simp only [Demands.inForce, held]
  cases demandSpeed d.scanner <;> cases demandSpeed d.live <;> cases demandSpeed d.carry <;> simp

theorem inForce_hold_of_none {d : Demands} (none_in_force : d.inForce = none) (code : Nat) :
    ({ d with hold := some ⟨code, false⟩ } : Demands).inForce = some code := by
  have held : demandSpeed (some ⟨code, false⟩) = some code := rfl
  simp only [Demands.inForce, Option.or_eq_none_iff] at none_in_force
  obtain ⟨⟨scanner, live⟩, carry, -⟩ := none_in_force
  simp [Demands.inForce, held, scanner, live, carry]

/-- A lock is not timed again where no scanner-side demand counts (R65). -/
theorem timedServo_of_none (none_scanning : demandSpeed p.servo.demands.scanner = none) : p.timedServo = p.servo := by
  have untimed : ¬ (p.servo.drum = .locked ∧ p.timesLock = true) := by simp [Part.timesLock, none_scanning]
  rw [Part.timedServo, if_neg untimed, if_neg untimed]

end

/-! ## Commands on the holds -/

/-- The part at the echo of a command that changes the demands alone. -/
def Part.demanded (p : Part) (code : Byte) (demands : Demands) : Part :=
  echoCommand code .done (p.hosted.onDemands fun _ => demands)

@[simp] theorem Part.demanded_servo (p : Part) (code : Byte) (demands : Demands) :
    (p.demanded code demands).servo = { p.servo with demands := demands } := rfl
@[simp] theorem Part.demanded_disp (p : Part) (code : Byte) (demands : Demands) :
    (p.demanded code demands).disp = echoed code .done p.disp := rfl
@[simp] theorem Part.demanded_scanner (p : Part) (code : Byte) (demands : Demands) :
    (p.demanded code demands).scanner = p.scanner := rfl
@[simp] theorem Part.demanded_settings (p : Part) (code : Byte) (demands : Demands) :
    (p.demanded code demands).settings = p.settings := rfl

theorem echoed_work (code : Byte) (result : CommandResult) (d : Dispatcher) : (echoed code result d).work = d.work := rfl

section
variable {p : Part} {demands : Demands}

theorem demanded_awaits (code : Byte) : (p.demanded code demands).awaitsDispatch = p.awaitsDispatch :=
  awaitsDispatch_of_work rfl rfl rfl

theorem demanded_running (settled : p.settled = true) (code : Byte) (slot : JobSlot) :
    (p.demanded code demands).jobOver slot = false :=
  (jobOver_of_work (p := p) rfl slot).trans ((Part.settled_iff.mp settled).1 slot)

end

section
variable {p : Part} {demands : Demands} (settled : p.settled = true)
  (jobs : demands.ofJob = p.servo.demands.ofJob)
include settled jobs

theorem demanded_marked (code : Byte) (mark : (p.demanded code demands).servo.speedFaultMark = true) :
    (p.demanded code demands).drumHasJob = true := by
  obtain ⟨-, -, marked, -, -⟩ := Part.settled_iff.mp settled
  have hasJob := marked mark
  rw [Part.drumHasJob, Part.jobDemands] at hasJob ⊢
  simpa [jobs, echoed] using hasJob

/-- With no dispatch due the servo acts on the demands placed and withdrawn (R52). -/
theorem closeEvent_demanded (code : Byte) (none_due : p.awaitsDispatch = false) :
    closeEvent p (p.demanded code demands) =
      ends p (driven p.servo.demands.inForce (p.demanded code demands)) := by
  have found : foundBefore p (p.demanded code demands) = p.servo.demands.inForce := by
    simp [foundBefore, unsettled_of_none_due settled none_due]
  rw [closeEvent_acts (demanded_running settled code) ((demanded_awaits code).trans none_due)
    (demanded_marked settled jobs code), found]

/-- With a dispatch due the change is left open for it (log 52). -/
theorem closeEvent_demanded_due (code : Byte) (due : p.awaitsDispatch = true) :
    closeEvent p (p.demanded code demands) =
      ends p (leaveDemand (lastFound p.servo) (p.demanded code demands)) := by
  obtain ⟨-, lock, -, -, -⟩ := Part.settled_iff.mp settled
  exact closeEvent_leaves (demanded_running settled code) ((demanded_awaits code).trans due)
    (demanded_marked settled jobs code) lock

/-- Where the demand in force stands, the demands alone change. -/
theorem closeEvent_demanded_same (code : Byte) (none_due : p.awaitsDispatch = false)
    (same : demands.inForce = p.servo.demands.inForce) :
    closeEvent p (p.demanded code demands) = ends p (p.demanded code demands) := by
  obtain ⟨-, lock, -, -, -⟩ := Part.settled_iff.mp settled
  have unsettled : p.servo.unsettled = none := unsettled_of_none_due settled none_due
  rw [closeEvent_demanded settled jobs code none_due, ← same]
  exact congrArg (ends p) (driven_same (p := p.demanded code demands) unsettled lock)

/-- The demands and the echo stand whatever the servo does. -/
theorem closeEvent_demanded_keeps (code : Byte) :
    (closeEvent p (p.demanded code demands)).servo.demands = demands ∧
      (closeEvent p (p.demanded code demands)).disp = echoed code .done p.disp := by
  cases due : p.awaitsDispatch with
  | true =>
    rw [closeEvent_demanded_due settled jobs code due]
    simp [ends, leaveDemand]
  | false =>
    rw [closeEvent_demanded settled jobs code due, driven_frame]
    simp [ends, driven_demands]

end

theorem not_driven_of_stopped {p : Part} (stopped : p.servo.drum = .stopped) : p.awaitsDispatch = false := by
  simp [Part.awaitsDispatch, stopped, DrumState.driven]

theorem not_driven_of_spindown {p : Part} (spindown : p.servo.drum = .spindown) : p.awaitsDispatch = false := by
  simp [Part.awaitsDispatch, spindown, DrumState.driven]

/-- The demands with the hold that a SPIN places (R45). -/
def Part.holding (p : Part) : Demands := { p.servo.demands with hold := some ⟨p.path.argument.toNat, false⟩ }

theorem takeCommand_spin {p : Part} (opened : p.isOpen = true) (small : p.path.argument.toNat < 3) :
    takeCommand 5 p.hosted =
      p.demanded 5 p.holding := by
  have spins : openCommand 5 p.hosted =
      (.done, p.hosted.onDemands fun d => { d with hold := some ⟨p.path.argument.toNat, false⟩ }) := if_pos small
  rw [takeCommand_open (p := p.hosted) opened, spins]
  rfl

theorem takeCommand_spin_large {p : Part} (opened : p.isOpen = true) (large : 3 ≤ p.path.argument.toNat) :
    takeCommand 5 p.hosted = echoCommand 5 .badArg p.hosted := by
  have refuses : openCommand 5 p.hosted = (.badArg, p.hosted) := if_neg (Nat.not_lt.mpr large)
  rw [takeCommand_open (p := p.hosted) opened, refuses]

/-- A command at a quiet state answers the close of its event. -/
theorem answers_of_command {s : State} {c : Instr} {code : Byte} {post : State → Prop} (w : writable 5 s)
    (opened : s.part.isOpen = true) (run : exec c s = .next (writeRequest 5 code s)) (code_ne : code ≠ 0)
    (holds : ∀ t : State, t.part = closeEvent s.part (takeCommand code s.part.hosted) → post t) :
    answers c s post := by
  refine ⟨_, exec_request w (isOpen_placed opened) run, holds _ ?_⟩
  rw [← Part.hosted_settings, snoopWrite_command code_ne]

theorem takeTarget_target (speed : Nat) (p : Part) : (takeTarget speed p).servo.target = speed := by
  by_cases stopped : p.servo.drum = .stopped
  · rw [takeTarget_stopped speed stopped]
  · rw [takeTarget_turning speed stopped]
    simp only [retargeted]
    split <;> rfl

/-- A demand that a command brings into force is taken (R53). -/
theorem spin_taken {p : Part} {code : Byte} {demands : Demands} {was : Option Nat} {speed : Nat}
    (unsettled : p.servo.unsettled = none) (now : demands.inForce = some speed) (changed : was ≠ some speed) :
    driven was (p.demanded code demands) = takeTarget speed (p.demanded code demands) := by
  rw [driven_taken (p := p.demanded code demands) (by simpa [now] using changed) now,
    Part.found_self (p := p.demanded code demands) unsettled]

/-- Settles O29: the hold is the last of the list, so that it comes into force only where nothing else is. -/
theorem spinPlacesTheHold : Obligations.SpinPlacesTheHold := by
  unfold Obligations.SpinPlacesTheHold
  refine ⟨inForce_eq_head, fun s w opened => ?_⟩
  have settled := w.1.2
  have placed := isOpen_placed opened
  have jobs : s.part.holding.ofJob = s.part.servo.demands.ofJob := rfl
  have takes_of {q : Part} (small : s.part.path.argument.toNat < 3)
      (event : closeEvent s.part (s.part.demanded 5 s.part.holding) = ends s.part q) :
      takes .spin s 5 0x05 q :=
    takes_of_command w placed rfl (by decide) (by rw [takeCommand_spin opened small, event])
  refine ⟨fun large => ?_, fun small same none_due => ?_, fun small none_before stopped => ?_, fun small due => ?_,
    fun small changed turns none_due => ?_, fun small => ?_⟩
  · refine takes_of_command w placed rfl (by decide) ?_
    rw [takeCommand_spin_large opened large]
    exact closeEvent_of_work settled rfl rfl rfl
  · exact takes_of small (closeEvent_demanded_same settled jobs 5 none_due same)
  · have none_due := not_driven_of_stopped stopped
    have unsettled : s.part.servo.unsettled = none := unsettled_of_none_due settled none_due
    refine takes_of small ((closeEvent_demanded settled jobs 5 none_due).trans (congrArg (ends s.part) ?_))
    rw [none_before, spin_taken (was := none) (demands := s.part.holding) unsettled (inForce_hold_of_none none_before _) (by simp),
      takeTarget_stopped (p := s.part.demanded 5 s.part.holding) _ stopped]
    rfl
  · exact takes_of small (closeEvent_demanded_due settled jobs 5 due)
  · have unsettled : s.part.servo.unsettled = none := unsettled_of_none_due settled none_due
    obtain ⟨now, none_scanning⟩ := (inForce_hold s.part.servo.demands _).resolve_left changed
    refine takes_of small ((closeEvent_demanded settled jobs 5 none_due).trans (congrArg (ends s.part) ?_))
    rw [spin_taken (demands := s.part.holding) unsettled now (by rw [← now]; exact changed.symm), takeTarget_turning (p := s.part.demanded 5 s.part.holding) _ turns,
      timedServo_of_none (p := s.part.demanded 5 s.part.holding) none_scanning]
    rfl
  · refine answers_of_command w opened rfl (by decide) fun t part => ?_
    rw [takeCommand_spin opened small] at part
    have keeps := closeEvent_demanded_keeps settled jobs 5
    rw [part]
    refine ⟨keeps.1, keeps.2, fun none_before none_due => ?_⟩
    have unsettled : s.part.servo.unsettled = none := unsettled_of_none_due settled none_due
    rw [closeEvent_demanded settled jobs 5 none_due, none_before,
      spin_taken (was := none) (demands := s.part.holding) unsettled (inForce_hold_of_none none_before _) (by simp)]
    have target := takeTarget_target s.part.path.argument.toNat (s.part.demanded 5 s.part.holding)
    simpa [ends] using target

/-- The demands without hold and carry-over (R45). -/
def Part.released (p : Part) : Demands := { p.servo.demands with carry := none, hold := none }

theorem takeCommand_releaseSpin {p : Part} (opened : p.isOpen = true) :
    takeCommand 6 p.hosted = p.demanded 6 p.released := by
  rw [takeCommand_open (p := p.hosted) opened]
  rfl

/-- No withdrawal of the last two demands brings another speed into force (R52). -/
theorem inForce_released (p : Part) :
    p.released.inForce = p.servo.demands.inForce ∨ p.released.inForce = none := by
  simp only [Part.released, Demands.inForce]
  cases demandSpeed p.servo.demands.scanner <;> cases demandSpeed p.servo.demands.live <;> simp [demandSpeed]

/-- With no demand left a drum at rest, or in SPINDOWN, stays as it is (R53). -/
theorem driven_still {p : Part} (was : Option Nat) (none_left : p.servo.demands.inForce = none)
    (still : p.servo.drum = .stopped ∨ p.servo.drum = .spindown) : driven was p = p.found := by
  by_cases same : was = none
  · have unlocked : p.servo.drum ≠ .locked := by rcases still with h | h <;> simp [h]
    rw [same, ← none_left]
    exact driven_same (p := p.found) rfl fun locked => absurd locked unlocked
  · rw [driven_dropped (by rwa [none_left]) none_left]
    exact (dropTarget_eq _).trans (if_pos still)

/-- With no demand left a driven drum enters SPINDOWN (R53). -/
theorem driven_falls {p : Part} {was : Option Nat} (unsettled : p.servo.unsettled = none) (some_before : was ≠ none)
    (none_left : p.servo.demands.inForce = none) (turns : p.servo.drum ≠ .stopped) (drives : p.servo.drum ≠ .spindown) :
    driven was p =
      { p with servo := { p.servo with drum := .spindown, duty := 0, nextDuty := 0, goodCount := 0, lockCount := 0,
                                       outsideCount := 0, faultCount := 0, lockRunning := false },
               scanner := p.disarmed } := by
  have none_scanning : demandSpeed p.servo.demands.scanner = none := by
    have left := none_left
    simp only [Demands.inForce, Option.or_eq_none_iff] at left
    exact left.1.1
  rw [driven_dropped (by rwa [none_left]) none_left, Part.found_self unsettled, dropTarget_eq,
    if_neg (not_or.mpr ⟨turns, drives⟩), enterSpindown_eq, timedServo_of_none none_scanning]

/-- Settles O30: hold and carry-over are the last of the list, so that their withdrawal leaves the demand in force or
leaves none. -/
theorem releaseSpinWithdrawsTheHolds : Obligations.ReleaseSpinWithdrawsTheHolds := by
  unfold Obligations.ReleaseSpinWithdrawsTheHolds
  intro s w opened
  have settled := w.1.2
  have jobs : s.part.released.ofJob = s.part.servo.demands.ofJob := rfl
  have takes_of {q : Part} (event : closeEvent s.part (s.part.demanded 6 s.part.released) = ends s.part q) :
      takes .releaseSpin s 5 0x06 q :=
    takes_of_command w (isOpen_placed opened) rfl (by decide) (by rw [takeCommand_releaseSpin opened, event])
  refine ⟨fun due => ?_, fun same none_due => ?_, fun some_before none_left turns drives none_due => ?_,
    fun none_left still => ?_, inForce_released s.part, ?_⟩
  · exact takes_of (closeEvent_demanded_due settled jobs 6 due)
  · exact takes_of (closeEvent_demanded_same settled jobs 6 none_due same)
  · have unsettled : s.part.servo.unsettled = none := unsettled_of_none_due settled none_due
    have falls := driven_falls (p := s.part.demanded 6 s.part.released) unsettled some_before none_left turns drives
    refine takes_of ((closeEvent_demanded settled jobs 6 none_due).trans (congrArg (ends s.part) ?_))
    rw [falls]
    rfl
  · have none_due : s.part.awaitsDispatch = false :=
      still.elim not_driven_of_stopped not_driven_of_spindown
    have unsettled : s.part.servo.unsettled = none := unsettled_of_none_due settled none_due
    refine takes_of ((closeEvent_demanded settled jobs 6 none_due).trans (congrArg (ends s.part) ?_))
    exact (driven_still (p := s.part.demanded 6 s.part.released) _ none_left still).trans
      (Part.found_self (p := s.part.demanded 6 s.part.released) unsettled)
  · refine answers_of_command w opened rfl (by decide) fun t part => ?_
    rw [part, takeCommand_releaseSpin opened]
    exact closeEvent_demanded_keeps settled jobs 6

/-! ## CLEAR in OPEN -/

/-- The servo with nothing demanded, D and I 0 and the run counts 0. -/
def Part.undemanded (p : Part) : Part :=
  { p with servo := { p.servo with
      demands := Demands.none, integral := 0, duty := 0, nextDuty := 0, goodCount := 0, lockCount := 0,
      outsideCount := 0, faultCount := 0, noLockOffered := false, speedFaultMark := false } }

/-- CLEAR at the drum servo (R69). -/
theorem clearServo_eq (p : Part) : clearServo p =
    { p with
      servo := { p.servo with
        drum := if p.servo.drum = .stopped then .stopped else .spindown, demands := Demands.none, integral := 0,
        duty := 0, nextDuty := 0, goodCount := 0, lockCount := 0, outsideCount := 0, faultCount := 0,
        lockRunning := false, noLockOffered := false, speedFaultMark := false },
      scanner := p.disarmed } := by
  have cleared : clearServo p =
      (if p.servo.drum = .stopped then p.undemanded else setDrum .spindown p.undemanded).onServo fun v =>
        { v with lockRunning := false } := rfl
  rw [cleared]
  by_cases stopped : p.servo.drum = .stopped
  · have unlocked : p.servo.drum ≠ .locked := by simp [stopped]
    rw [if_pos stopped, if_pos stopped, Part.disarmed, if_neg unlocked, ← stopped]
    rfl
  · have turns : p.undemanded.turning .spindown =
        { p.undemanded with servo := { p.undemanded.timedServo with drum := .spindown },
                            scanner := p.undemanded.disarmed } := rfl
    rw [if_neg stopped, if_neg stopped, setDrum_turning (.inr (.inr rfl)), turns,
      timedServo_of_none (p := p.undemanded) rfl]
    rfl

theorem attnLevel_zero (mask : Byte) : attnLevel 0 mask = false := by
  simp [attnLevel]

/-- CLEAR at the status writer (R167). -/
theorem clearStatus_eq (p : Part) : clearStatus p =
    { p with status := { p.status with pending := 0, fresh := 0, attn := false, forced := 0 } } := by
  rw [clearStatus, Part.setCauses, attnLevel_zero]
  rfl

/-- CLEAR at the drum and at the scanner (R69, R105). -/
theorem clearScanner_clearServo (p : Part) : clearScanner (clearServo p) =
    { p with
      servo := { p.servo with
        drum := if p.servo.drum = .stopped then .stopped else .spindown, demands := Demands.none, integral := 0,
        duty := 0, nextDuty := 0, goodCount := 0, lockCount := 0, outsideCount := 0, faultCount := 0,
        lockRunning := false, noLockOffered := false, speedFaultMark := false },
      scanner := { Part.reset.scanner with white := p.scanner.white, black := p.scanner.black,
                                           step := p.scanner.step } } := by
  have kept : p.disarmed.white = p.scanner.white ∧ p.disarmed.black = p.scanner.black ∧
      p.disarmed.step = p.scanner.step := by
    simp only [Part.disarmed]
    split <;> exact ⟨rfl, rfl, rfl⟩
  obtain ⟨white, black, step⟩ := kept
  rw [clearServo_eq, clearScanner, Part.onScanner, ← white, ← black, ← step]

/-- CLEAR taken in OPEN (R46). -/
theorem clearOpen_eq (p : Part) : clearOpen p =
    { p with
      path := { p.path with guards := { GuardSet.empty with statusBlock := p.path.guards.statusBlock },
                            guardHits := 0, firstGuarded := 0 },
      disp := (clearDispatcher p).disp,
      servo := { p.servo with
        drum := if p.servo.drum = .stopped then .stopped else .spindown, demands := Demands.none, integral := 0,
        duty := 0, nextDuty := 0, goodCount := 0, lockCount := 0, outsideCount := 0, faultCount := 0,
        lockRunning := false, noLockOffered := false, speedFaultMark := false },
      timer := stoppedTimer p.timer,
      scanner := { Part.reset.scanner with white := p.scanner.white, black := p.scanner.black,
                                           step := p.scanner.step },
      sender := { Part.reset.sender with held := p.sender.held, onTimer := p.sender.onTimer },
      slips := { p.slips with producer := 0, write := none },
      status := { p.status with pending := 0, fresh := 0, attn := false, forced := 0 } } := by
  rw [clearOpen, clearScanner_clearServo, clearStatus_eq]
  rfl

theorem clearOpen_disp (p : Part) : (clearOpen p).disp = (clearDispatcher p).disp := by
  simp [clearOpen]

/-- Settles O28: nothing runs and nothing is demanded after the CLEAR, so that the servo has nothing to act on. -/
theorem clearInOpenStopsEverything : Obligations.ClearInOpenStopsEverything := by
  unfold Obligations.ClearInOpenStopsEverything
  intro s w opened
  have clears : openCommand 1 s.part.hosted = (.done, clearOpen s.part.hosted) := rfl
  have servo : (echoCommand 1 .done (clearOpen s.part.hosted)).servo =
    (clearServo (clearDispatcher s.part.hosted)).servo := rfl
  rw [clearServo_eq] at servo
  have still : (echoCommand 1 .done (clearOpen s.part.hosted)).servo.drum = .stopped ∨
      (echoCommand 1 .done (clearOpen s.part.hosted)).servo.drum = .spindown := by
    rw [servo]
    exact (Decidable.em _).imp (fun h => if_pos h) (fun h => if_neg h)
  have none_left : (echoCommand 1 .done (clearOpen s.part.hosted)).servo.demands.inForce = none := by
    rw [servo]
    rfl
  have running (slot : JobSlot) : (echoCommand 1 .done (clearOpen s.part.hosted)).jobOver slot = false := by
    cases slot <;> simp [Part.jobOver, Part.jobAt, echoCommand, clearOpen_disp, clearDispatcher]
  refine takes_of_command w (isOpen_placed opened) rfl (by decide) ?_
  rw [takeCommand_open (p := s.part.hosted) opened, clears, closeEvent_acts running]
  · refine congrArg (ends s.part) ?_
    rw [driven_still _ none_left still]
    rw [clearOpen_eq]
    rfl
  · simp [Part.awaitsDispatch, echoCommand, clearOpen_disp, clearDispatcher]
  · intro mark
    rw [servo] at mark
    cases mark

end Sys2Proof.Machine
end

section
/-! The arbiter: accesses that wait, requests and grants, and the grant at a completion (R11 to R13). -/

namespace Sys2Proof.Machine

open Sys2Proof.Claims (answers ends endsIn leaves stores takes hostPort quiet writable sameBut slipImage)

section
variable {s : State}

/-! ## Accesses that wait -/

theorem endsIn_of_held {c : Instr} {t : Transfer} {a : HostAccess} (port : s.part.path.port = .part t)
    (waiting : s.part.path.waiting = none) (run : exec c s = .next (hostAccess a s)) :
    endsIn c s { s.part with path := { s.part.path with waiting := some ⟨a, 0⟩, wait := true } } := by
  rw [hostAccess_held port waiting] at run
  exact endsIn_of_exec run

/-- A grant on an idle port is not the host's (R11). -/
theorem grantIdle_port_ne_host {p : Part} (free : p.path.port ≠ .host) : (grantIdle p).path.port ≠ .host := by
  rcases grantIdle_cases p with same | ⟨r, -, -, granted⟩
  · rwa [same]
  · rw [granted, Part.grant_path]
    simp

theorem closeEvent_port_ne_host {p : Part} (before : Part) (free : p.path.port ≠ .host) :
    (closeEvent before p).path.port ≠ .host :=
  grantIdle_port_ne_host (by simpa using free)

/-- After a host transfer with nothing waiting the bus is free (R12). -/
theorem busTaken_completeTransfer (port : s.part.path.port = .host) (waiting : s.part.path.waiting = none) :
    (completeTransfer s).busTaken = false := by
  let freed : State := (freePort s).onPart fun p => p.onPath fun m => { m with wait := false }
  have none_waits : freed.part.path.waiting = none := waiting
  have completes : completeTransfer s = State.closeFrom s (freed.onPart grantIdle) := by
    simp only [completeTransfer, port, regrant, none_waits, freed]
  have granted : (grantIdle freed.part).path.port ≠ .host := grantIdle_port_ne_host (by simp [freed])
  have still_none : (closeEvent s.part (grantIdle freed.part)).path.waiting = none := by
    rw [closeEvent_path, grantIdle_path, none_waits]
  rw [completes]
  simp only [State.busTaken, State.closeFrom_part, State.onPart_part, still_none, closeEvent_port_ne_host _ granted,
    Option.isSome_none, decide_false, Bool.or_self]

theorem hostAccess_after_host (port : s.part.path.port = .host) (waiting : s.part.path.waiting = none)
    (a : HostAccess) : hostAccess a s = hostAccess a (completeTransfer s) := by
  have taken : s.busTaken = true := by simp [State.busTaken, port]
  have free := busTaken_completeTransfer port waiting
  simp [hostAccess, freeBus, taken, free]

/-- Settles O21: the port that a host transfer leaves is free of the host. -/
theorem hostAccessWaitsItsTurn : Obligations.HostAccessWaitsItsTurn := by
  unfold Obligations.HostAccessWaitsItsTurn
  refine ⟨fun x b s t port waiting => ⟨endsIn_of_held port waiting rfl, endsIn_of_held port waiting rfl⟩,
    fun x b s t port waiting completed => ?_⟩
  obtain rfl : completeTransfer s = t := Host.Outcome.next.inj completed
  exact ⟨congrArg Host.Outcome.next (hostAccess_after_host port waiting _),
    congrArg Host.Outcome.next (hostAccess_after_host port waiting _)⟩

end

/-! ## Marks, raises and grants -/

section
variable {p q : Part}

theorem sameBut_status {named : List Claims.Block} (mem : .status ∈ named) (f : StatusWriter → StatusWriter) :
    sameBut named p (p.onStatus f) := by
  intro block other
  cases block
  case status => exact absurd mem other
  all_goals rfl

theorem sameBut_markChanges (before p : Part) : sameBut [.status] p (markChanges before p) := by
  rcases markChanges_cases before p with same | marked
  · rw [same]
    intro block _
    cases block <;> rfl
  · rw [marked]
    exact sameBut_status (by simp) _

theorem markChanges_dirty (before p : Part) : (markChanges before p).status =
    { p.status with dirty := p.status.dirty || decide (statusFields before ≠ statusFields p) } := by
  unfold markChanges
  split
  case isTrue same => simp [same]
  case isFalse moved => simp [moved]

theorem sameBut_grantIdle (p : Part) : sameBut [.path, .scanner] p (grantIdle p) := by
  intro block other
  rcases grantIdle_cases p with same | ⟨r, -, -, granted⟩
  · rw [same]
    cases block <;> rfl
  · rw [granted]
    cases block
    case path => exact absurd (by simp) other
    case scanner => exact absurd (by simp) other
    all_goals cases r <;> rfl

theorem grantIdle_of_taken (taken : p.path.port ≠ .idle) : grantIdle p = p := by
  rcases grantIdle_cases p with same | ⟨r, idle, -, -⟩
  · exact same
  · exact absurd idle taken

theorem grantIdle_of_none (none_wants : ∀ r, p.wants r = false) : grantIdle p = p := by
  rcases grantIdle_cases p with same | ⟨r, -, wanted, -⟩
  · exact same
  · simp [none_wants] at wanted

/-- The requesters in the order of Table 1.5-1. -/
def requesters : List Requester := [.lineSender, .scanner, .statusWriter, .slipWriter, .dispatcher]

/-- The first request outstanding is granted on an idle port (R11). -/
theorem grantIdle_first {r : Requester} (idle : p.path.port = .idle) (wanted : p.wants r = true)
    (first : ∀ r', p.wants r' = true → r' = r ∨ requesters.idxOf r < requesters.idxOf r') :
    grantIdle p = p.grant r := by
  have earlier (r' : Requester) (before : requesters.idxOf r' < requesters.idxOf r) : p.wants r' = false := by
    rw [Bool.eq_false_iff]
    intro wanted'
    rcases first r' wanted' with rfl | after
    · exact Nat.lt_irrefl _ before
    · exact Nat.lt_asymm before after
  have head : p.requests.head? = some r := by
    cases r
    case lineSender => simp [Part.requests, wanted]
    case scanner => simp [Part.requests, wanted, earlier .lineSender (by decide)]
    case statusWriter =>
      simp [Part.requests, wanted, earlier .lineSender (by decide), earlier .scanner (by decide)]
    case slipWriter =>
      simp [Part.requests, wanted, earlier .lineSender (by decide), earlier .scanner (by decide),
        earlier .statusWriter (by decide)]
    case dispatcher =>
      simp [Part.requests, wanted, earlier .lineSender (by decide), earlier .scanner (by decide),
        earlier .statusWriter (by decide), earlier .slipWriter (by decide)]
  obtain ⟨rest, requests⟩ := List.head?_eq_some_iff.mp head
  exact grantIdle_granted p idle requests

theorem Part.grant_scanner (p : Part) (r : Requester) : (p.grant r).scanner =
    if r = .scanner then { p.scanner with fifo := p.scanner.fifo.tail } else p.scanner := by
  cases r <;> rfl

theorem Slip.bytes_eq_slipImage (sl : Slip) (sequence : Byte) : sl.bytes sequence = slipImage sl sequence := rfl

/-- The slot of a line begins with its header (Table 12.4-1). -/
theorem lineSlot_start (cfg : Settings) (ring : LineRing) (i : Nat) : (cfg.lineSlot ring i).start =
    (if ring = .scan then cfg.scanBase else cfg.feedBase) + i * (4 + cfg.image) := by
  cases ring <;> rfl

theorem scanWriteOffset_eq (start image written : Nat) : start + scanWriteOffset image written =
    start + if written < image then 4 + written else written - image := rfl

/-- Settles O18: marks, raises and grants change the blocks named, and each request is its requester's. -/
theorem marksRaisesAndGrants : Obligations.MarksRaisesAndGrants := by
  unfold Obligations.MarksRaisesAndGrants
  intro p q c
  refine ⟨markChanges_dirty p q, sameBut_markChanges p q, rfl, sameBut_status (by simp) (p := q) (fun _ => (q.raise c).status),
    sameBut_grantIdle q,
    grantIdle_of_taken, grantIdle_of_none, fun idle r wanted first => ?_, ?_⟩
  · rw [grantIdle_first idle wanted first]
    exact ⟨Part.grant_path q r, Part.grant_scanner q r⟩
  refine ⟨fun hand => by simp [Part.wants, hand], fun h hand => ⟨?_, ?_⟩, fun openLine => by simp [Part.wants, openLine],
    fun l openLine => ⟨?_, fun b head => ?_⟩, Option.isSome_iff_ne_none, fun i write => ?_, Option.isSome_iff_ne_none,
    fun w write sl head => ?_, Option.isSome_iff_ne_none, fun f fetch => ?_⟩
  · simp only [Part.wants, hand, Bool.and_eq_true, decide_eq_true_eq, and_assoc]
    rfl
  · simp only [Part.transferOf, hand, lineSlot_start]
    rfl
  · simp [Part.wants, openLine]
  · simp only [Part.transferOf, openLine, List.headD_eq_head?_getD, head]
    rfl
  · simp only [Part.transferOf, write]
    rfl
  · obtain ⟨rest, queue⟩ := List.head?_eq_some_iff.mp head
    simp only [Part.transferOf, write, queue]
    rfl
  · simp only [Part.transferOf, fetch]
    rfl

end

end Sys2Proof.Machine
end

section
/-! The grant at the completion of a transfer (R12, R13). -/

namespace Sys2Proof.Machine

open Sys2Proof.Claims (answers ends endsIn leaves stores takes hostPort quiet writable sameBut slipImage)

section
variable {p q before : Part}

/-! ## A grant at the close of an event -/

theorem grantIdle_again (p : Part) : grantIdle (grantIdle p) = grantIdle p := by
  rcases grantIdle_cases p with same | ⟨r, -, -, granted⟩
  · rw [same, same]
  · rw [granted]
    exact grantIdle_of_taken (by simp)

/-- A grant does not look at the dirty mark. -/
theorem grantIdle_onStatus {f : StatusWriter → StatusWriter} (write : (f p.status).write = p.status.write) :
    grantIdle (p.onStatus f) = (grantIdle p).onStatus f := by
  have wants (r : Requester) : (p.onStatus f).wants r = p.wants r := by
    cases r
    case statusWriter => exact congrArg Option.isSome write
    all_goals rfl
  have requests : (p.onStatus f).requests = p.requests := by simp only [Part.requests, funext wants]
  have transfer (r : Requester) : (p.onStatus f).transferOf r = p.transferOf r := by
    cases r
    case statusWriter =>
      exact congrArg (fun w => (⟨.statusWriter, ramOffset (p.settings.statusBase + w.getD 0), 0, false⟩ : Transfer)) write
    all_goals rfl
  have grant (r : Requester) : (p.onStatus f).grant r = (p.grant r).onStatus f := by
    simp only [Part.grant, transfer]
    cases r <;> rfl
  simp only [grantIdle, requests, Part.onStatus_path, grant]
  split <;> rfl

theorem statusFields_grantIdle (p : Part) : statusFields (grantIdle p) = statusFields p := by
  rcases grantIdle_cases p with same | ⟨r, -, -, granted⟩
  · rw [same]
  · rw [granted]
    cases r <;> rfl

/-- A grant before the marks at the close of an event is the grant after them. -/
theorem ends_grantIdle (before p : Part) : ends before (grantIdle p) = ends before p := by
  have marks : markChanges before (grantIdle p) = grantIdle (markChanges before p) := by
    unfold markChanges
    rw [statusFields_grantIdle]
    split
    · rfl
    · exact (grantIdle_onStatus rfl).symm
  rw [ends, ends, marks, grantIdle_again]

end

/-! ## The completion of a part transfer -/

section
variable {p : Part} {s : State}

/-- A change of tallies changes no other work. -/
theorem onTally_work (p : Part) (slot : JobSlot) (f : Tally → Tally) : (p.onTally slot f).disp.work = p.disp.work := by
  have sides (j : Option Job) : (j.map fun j => { j with tally := f j.tally }).map Job.sides = j.map Job.sides := by
    cases j <;> rfl
  cases slot <;> simp only [Part.onTally, Part.onJob, Part.onDisp, Dispatcher.work, sides]

theorem statusFields_onTally (p : Part) (slot : JobSlot) (f : Tally → Tally) :
    statusFields (p.onTally slot f) = statusFields p := by
  cases slot <;> rfl

theorem onTally_none {slot : JobSlot} (idle : p.jobAt slot = none) (f : Tally → Tally) : p.onTally slot f = p := by
  have kept (j : Option Job) (h : j = none) : (j.map fun j => { j with tally := f j.tally }) = j := by rw [h]; rfl
  cases slot
  · simp only [Part.onTally, Part.onJob, Part.onDisp, kept p.disp.scanJob idle]
  · simp only [Part.onTally, Part.onJob, Part.onDisp, kept p.disp.relayJob idle]

/-- An offer that no drum fault makes joins the events of a job when it is an event, or when the job has its first
cause (R37). -/
theorem offer_placed {slot : JobSlot} {c : Cause} {named : Named} (fault : c.isDrumFault = false)
    (late : ∀ j, p.jobAt slot = some j → (c.isEvent || j.firstCause.isSome) = true) :
    offer slot c named p = p.onTally slot fun t => t.place c (p.lineFor c named) := by
  cases job : p.jobAt slot with
  | none => rw [onTally_none job, offer, job]
  | some j =>
    have stays : switchToTimer j c p = p := by simp [switchToTimer, fault]
    simp only [offer, job, stays, late j job, if_true, placeEvent]

/-- The header of a taken feed line is judged in the events of the RELAY (R130). -/
theorem judgeHeader_eq (h : LineInHand) (b : Byte) (p : Part) :
    judgeHeader h b p = p ∨ judgeHeader h b p = p.onTally .relay fun t => t.place .feedOrder p.sender.line := by
  have placed : offer .relay .feedOrder .sender p = p.onTally .relay fun t => t.place .feedOrder p.sender.line :=
    offer_placed rfl fun _ _ => rfl
  have either (c : Prop) [Decidable c] (x y : Part) : (if c then x else y) = x ∨ (if c then x else y) = y := by
    split
    · exact .inl rfl
    · exact .inr rfl
  unfold judgeHeader
  split
  · exact (either _ _ _).imp_right (·.trans placed)
  · exact .inl rfl

/-- What the bytes of a line leave: the servo, the device state, the fields shown, and the work in hand. -/
theorem receiveByte_work (b : Byte) (p : Part) : (receiveByte b p).disp.work = p.disp.work ∧
    statusFields (receiveByte b p) = statusFields p ∧ (receiveByte b p).servo = p.servo := by
  unfold receiveByte
  split
  · exact ⟨rfl, rfl, rfl⟩
  case h_2 h _ =>
    rcases judgeHeader_eq h b (p.onSender fun d =>
      { d with hand := some (h.take b), fifo := if h.keeps then d.fifo ++ [b] else d.fifo }) with same | placed
    · rw [same]
      exact ⟨rfl, rfl, rfl⟩
    · rw [placed]
      exact ⟨onTally_work _ _ _, statusFields_onTally _ _ _, rfl⟩

/-- A completed transfer shows a change only where a cause is raised (R160). -/
theorem finishTransfer_shown (t : Transfer) (s : State) :
    statusFields (finishTransfer t s).part = statusFields s.part ∨
      (finishTransfer t s).part.status.dirty = true := by
  unfold finishTransfer
  cases t.who with
  | lineSender =>
    simp only [State.onPart_part]
    split
    · exact .inl rfl
    · exact .inl (receiveByte_work _ _).2.1
  | scanner =>
    simp only [State.onPart_part]
    split <;> exact .inl rfl
  | statusWriter =>
    cases s.part.status.write with
    | none => exact .inl rfl
    | some i =>
      refine .inl ?_
      simp only [State.onPart_part, statusByteWritten]
      split <;> rfl
  | slipWriter =>
    simp only [State.onPart_part, slipByteWritten]
    split
    · exact .inl rfl
    · split
      · exact .inl rfl
      · exact .inr rfl
  | dispatcher =>
    simp only [State.onPart_part, fetchByte]
    split
    · exact .inl rfl
    · split
      · exact .inl rfl
      · simp only [endFetch]
        split
        · exact .inl rfl
        · exact .inr rfl

theorem snoopWrite_dirty {p : Part} (x : Nat) (b : Byte) (dirty : p.status.dirty = true) :
    (snoopWrite x b p).status.dirty = true := by
  simp only [snoopWrite]
  split
  · exact dirty
  · split
    · split
      · exact dirty
      · rfl
    · (repeat' split) <;> simpa using dirty

/-- A dirty block stays dirty when the host is granted the port (R160). -/
theorem grantHost_dirty (s : State) (a : HostAccess) (dirty : s.part.status.dirty = true) :
    (grantHost a s).part.status.dirty = true := by
  cases a with
  | read x =>
    simp only [grantHost, serveAccess, serveRead_part, snoopRead]
    (repeat' split) <;> exact dirty
  | write x b =>
    simp only [grantHost, serveAccess, serveWrite_part]
    split
    · rfl
    · split
      · exact snoopWrite_dirty x b dirty
      · exact dirty

end

end Sys2Proof.Machine
end

section
/-! A waiting host access at the completion of a part transfer (R12, R13). -/

namespace Sys2Proof.Machine

open Sys2Proof.Claims (answers ends endsIn leaves stores takes hostPort quiet writable sameBut slipImage)

/-! ## RAM whose offsets rise

A transfer moves its byte whatever its offset, so that the byte that a host write then leaves is found from the order
of the offsets alone. -/

/-- The offsets of the cells listed rise strictly. -/
def Ram.rising (m : Ram) : Prop := m.Pairwise fun c d => c.1 < d.1

section
variable {m : Ram} {x : Nat} {v : Byte}

theorem Ram.rising_of_wfFrom {lo : Nat} (wf : Ram.wfFrom lo m = true) : m.rising ∧ ∀ c ∈ m, lo ≤ c.1 := by
  induction m generalizing lo with
  | nil => simp [Ram.rising]
  | cons c m ih =>
    obtain ⟨a, b⟩ := c
    obtain ⟨low, -, -, rest⟩ := Ram.wfFrom_cons.mp wf
    obtain ⟨rising, above⟩ := ih rest
    refine ⟨List.pairwise_cons.mpr ⟨fun d mem => above d mem, rising⟩, fun d mem => ?_⟩
    rcases List.mem_cons.mp mem with rfl | mem
    · exact low
    · exact Nat.le_trans (Nat.le_trans low (Nat.le_succ a)) (above d mem)

theorem Ram.read_absent (absent : ∀ c ∈ m, c.1 ≠ x) : m.read x = Config.ramDefault := by
  induction m with
  | nil => rfl
  | cons c m ih =>
    obtain ⟨a, b⟩ := c
    rw [Ram.read, if_neg (absent _ (.head _))]
    exact ih fun d mem => absent d (.tail _ mem)

theorem Ram.mem_write {c : Host.Cell} (mem : c ∈ m.write x v) : c ∈ m ∨ c.1 = x := by
  induction m with
  | nil =>
    simp only [Ram.write] at mem
    split at mem <;> simp_all
  | cons d m ih =>
    obtain ⟨a, b⟩ := d
    simp only [Ram.write] at mem
    (repeat' split at mem) <;> simp only [List.mem_cons] at mem ⊢ <;> grind

theorem Ram.write_rising (rising : m.rising) : (m.write x v).rising := by
  induction m with
  | nil =>
    simp only [Ram.write]
    split <;> simp [Ram.rising]
  | cons c m ih =>
    obtain ⟨a, b⟩ := c
    obtain ⟨above, rest⟩ := List.pairwise_cons.mp rising
    simp only [Ram.write]
    split
    case isTrue below =>
      refine List.pairwise_cons.mpr ⟨fun d mem => ?_, ih rest⟩
      rcases Ram.mem_write mem with old | new
      · exact above d old
      · exact new ▸ below
    case isFalse not_below =>
      split
      case isTrue same =>
        split
        · exact rest
        · exact List.pairwise_cons.mpr ⟨fun d mem => same ▸ above d mem, rest⟩
      case isFalse other =>
        split
        · exact rising
        · refine List.pairwise_cons.mpr ⟨fun d mem => ?_, rising⟩
          have low : x < a := by omega
          rcases List.mem_cons.mp mem with rfl | mem
          · exact low
          · exact Nat.lt_trans low (above d mem)

/-- A write gives its byte wherever the offsets rise (R2). -/
theorem Ram.read_write_of_rising (rising : m.rising) : (m.write x v).read x = v := by
  induction m with
  | nil =>
    simp only [Ram.write]
    split <;> simp_all [Ram.read]
  | cons c m ih =>
    obtain ⟨a, b⟩ := c
    obtain ⟨above, rest⟩ := List.pairwise_cons.mp rising
    have absent (low : x ≤ a) : Ram.read m x = Config.ramDefault :=
      Ram.read_absent fun d mem => Nat.ne_of_gt (Nat.lt_of_le_of_lt low (above d mem))
    simp only [Ram.write]
    split
    case isTrue below =>
      rw [Ram.read, if_neg (Nat.ne_of_lt below)]
      exact ih rest
    case isFalse not_below =>
      split
      case isTrue same =>
        split
        case isTrue default => rw [default, absent (Nat.le_of_eq same.symm)]
        case isFalse => simp [Ram.read]
      case isFalse other =>
        split
        case isTrue default => rw [Ram.read, if_neg other, default, absent (Nat.not_lt.mp not_below)]
        case isFalse => simp [Ram.read]

end

/-! ## Settledness at a completed transfer -/

section
variable {p q : Part} {s : State}

/-- With nothing left open, only the jobs, the servo and the fetch beside a pending job have a part in settledness. -/
theorem Part.settled_of_jobs (settled : p.settled = true) (scanJob : q.disp.scanJob = p.disp.scanJob)
    (relayJob : q.disp.relayJob = p.disp.relayJob) (servo : q.servo = p.servo)
    (alone : q.disp.fetchesAlone = true)
    (left : ∀ was, p.servo.unsettled = some was → p.awaitsDispatch = true → q.awaitsDispatch = true) :
    q.settled = true := by
  obtain ⟨jobs, lock, mark, -, due⟩ := Part.settled_iff.mp settled
  refine Part.settled_iff.mpr ⟨fun slot => ?_, by rwa [servo], ?_, alone, fun was unsettled => ?_⟩
  · have running := jobs slot
    cases slot <;> simpa only [Part.jobOver, Part.jobAt, scanJob, relayJob] using running
  · simpa only [Part.drumHasJob, Part.jobDemands, scanJob, servo] using mark
  · rw [servo] at unsettled ⊢
    exact ⟨left was unsettled (due was unsettled).1, (due was unsettled).2⟩

theorem awaitsDispatch_of_no_record (no_record : p.disp.pendingJob = none) : p.awaitsDispatch = false := by
  simp [Part.awaitsDispatch, no_record]

theorem no_record_of_fetch {f : Fetch} (alone : p.disp.fetchesAlone = true) (fetch : p.disp.fetch = some f) :
    p.disp.pendingJob = none := by
  simpa [Dispatcher.fetchesAlone, fetch] using alone

theorem slipWritten_disp (p : Part) : (slipWritten p).disp =
    { p.disp with slipQueue := p.disp.slipQueue.tail,
                  pendingJob := p.disp.pendingJob.map fun r => { r with held := false } } := rfl

theorem slipByteWritten_none (write : p.slips.write = none) : slipByteWritten p = p := by
  simp only [slipByteWritten, write]

theorem slipByteWritten_early {w : SlipWrite} (write : p.slips.write = some w) (early : w.written + 1 < 48) :
    slipByteWritten p = p.onSlips fun t => { t with write := some { w with written := w.written + 1 } } := by
  simp only [slipByteWritten, write]
  exact if_pos early

theorem slipByteWritten_last {w : SlipWrite} (write : p.slips.write = some w) (last : ¬ w.written + 1 < 48) :
    slipByteWritten p = slipWritten p := by
  simp only [slipByteWritten, write]
  exact if_neg last

theorem fetchByte_none (fetch : p.disp.fetch = none) (b : Byte) : fetchByte b p = p := by
  simp only [fetchByte, fetch]

theorem fetchByte_early {f : Fetch} (fetch : p.disp.fetch = some f) (early : f.bytes.length + 1 < 16) (b : Byte) :
    fetchByte b p = p.onDisp fun d => { d with fetch := some { f with bytes := f.bytes ++ [b] } } := by
  simp only [fetchByte, fetch, List.length_append, List.length_singleton]
  exact if_pos early

theorem fetchByte_last {f : Fetch} (fetch : p.disp.fetch = some f) (last : ¬ f.bytes.length + 1 < 16) (b : Byte) :
    fetchByte b p = endFetch (f.bytes ++ [b]) p := by
  simp only [fetchByte, fetch, List.length_append, List.length_singleton]
  exact if_neg last

/-- The end of a slip write leaves a dispatch that is due, due: one more slip has room (R33). -/
theorem slipWritten_awaits (due : p.awaitsDispatch = true) : (slipWritten p).awaitsDispatch = true := by
  simp only [Part.awaitsDispatch, Bool.and_eq_true] at due ⊢
  obtain ⟨drives, dispatches⟩ := due
  refine ⟨by simpa [slipWritten] using drives, ?_⟩
  cases record : p.disp.pendingJob with
  | none => simp [record] at dispatches
  | some r =>
    simp only [record, Bool.and_eq_true] at dispatches
    obtain ⟨starts, passes⟩ := dispatches
    have pendingJob : (slipWritten p).disp.pendingJob = some { r with held := false } := by
      simp [slipWritten, checkGate, record]
    simp only [pendingJob, Bool.and_eq_true]
    refine ⟨starts, ?_⟩
    have starting : r.idleRecord = false := by
      simp only [PendingJob.startsScanner, Bool.and_eq_true, Bool.not_eq_true'] at starts
      exact starts.1
    simp only [PendingJob.idleRecord, Bool.or_eq_false_iff] at starting
    simp only [Part.gatePasses, Bool.and_eq_true, starting.1, starting.2, Bool.false_and, Bool.false_or,
      Part.roomForSlip_eq, decide_eq_true_eq] at passes ⊢
    obtain ⟨⟨opened, room⟩, free⟩ := passes
    have load : (slipWritten p).slipLoad ≤ p.slipLoad := by
      simp [slipWritten, checkGate, Part.slipLoad, Part.runningJobs]
    have resources : (slipWritten p).resourcesFree r.spec.kind = p.resourcesFree r.spec.kind := by
      simp only [Part.resourcesFree, Part.senderSlot, slipWritten_disp]
    have device : (slipWritten p).isOpen = p.isOpen := by simp [slipWritten, Part.isOpen]
    rw [resources, device]
    exact ⟨⟨opened, Nat.lt_of_le_of_lt load room⟩, free⟩

theorem slipByteWritten_settled (settled : p.settled = true) : (slipByteWritten p).settled = true := by
  have alone := slipByteWritten_fetchesAlone (p := p) (fetchesAlone_of_settled settled)
  cases write : p.slips.write with
  | none => rwa [slipByteWritten_none write]
  | some w =>
    by_cases early : w.written + 1 < 48
    · rw [slipByteWritten_early write early]
      exact (Part.settled_congr rfl rfl rfl).trans settled
    · rw [slipByteWritten_last write early] at alone ⊢
      exact Part.settled_of_jobs settled (by rw [slipWritten_disp]) (by rw [slipWritten_disp])
        (by simp [slipWritten]) alone fun _ _ => slipWritten_awaits

theorem fetchByte_settled (settled : p.settled = true) (b : Byte) : (fetchByte b p).settled = true := by
  have alone := fetchByte_fetchesAlone (p := p) (fetchesAlone_of_settled settled) b
  cases fetch : p.disp.fetch with
  | none => rwa [fetchByte_none fetch]
  | some f =>
    have none_due := awaitsDispatch_of_no_record (no_record_of_fetch (fetchesAlone_of_settled settled) fetch)
    have not_due {q : Part} (due : p.awaitsDispatch = true) : q.awaitsDispatch = true := by
      rw [none_due] at due
      cases due
    by_cases early : f.bytes.length + 1 < 16
    · rw [fetchByte_early fetch early] at alone ⊢
      exact Part.settled_of_jobs settled rfl rfl rfl alone fun _ _ => not_due
    · rw [fetchByte_last fetch early] at alone ⊢
      exact Part.settled_of_jobs settled (by simp only [endFetch]; split <;> rfl) (by simp only [endFetch]; split <;> rfl)
        (by simp) alone fun _ _ => not_due

/-- A completed part transfer leaves a settled part settled. -/
theorem finishTransfer_settled (settled : s.part.settled = true) (t : Transfer) :
    (finishTransfer t s).part.settled = true := by
  unfold finishTransfer
  cases t.who with
  | lineSender =>
    simp only [State.onPart_part]
    split
    · exact settled
    · obtain ⟨work, -, servo⟩ := receiveByte_work (s.ram.read t.offset) s.part
      exact (Part.settled_of_work (by simp) servo work).trans settled
  | scanner =>
    simp only [State.onPart_part]
    split <;> exact (Part.settled_congr rfl rfl rfl).trans settled
  | statusWriter =>
    cases s.part.status.write with
    | none => exact settled
    | some i => exact (Part.settled_congr (by simp) (by simp) (by simp)).trans settled
  | slipWriter => exact slipByteWritten_settled settled
  | dispatcher => exact fetchByte_settled settled _

end

end Sys2Proof.Machine
end

section
/-! Settling the grant at a completion with an access waiting (R12, R13). -/

namespace Sys2Proof.Machine

open Sys2Proof.Claims (answers ends endsIn leaves stores takes hostPort quiet writable sameBut slipImage)

section
variable {p : Part} {s v : State} {a : HostAccess} {n : Nat}

theorem finishTransfer_servo (t : Transfer) (s : State) : (finishTransfer t s).part.servo = s.part.servo := by
  unfold finishTransfer
  cases t.who with
  | lineSender =>
    simp only [State.onPart_part]
    split
    · rfl
    · exact (receiveByte_work _ _).2.2
  | scanner =>
    simp only [State.onPart_part]
    split <;> rfl
  | statusWriter => cases s.part.status.write <;> simp
  | slipWriter => simp
  | dispatcher => simp

/-- A byte moves at an offset, or none does (R12). -/
theorem finishTransfer_rising (wf : s.ram.wf = true) (t : Transfer) : (finishTransfer t s).ram.rising := by
  have rising : s.ram.rising := (Ram.rising_of_wfFrom wf).1
  unfold finishTransfer
  cases t.who with
  | lineSender => exact rising
  | scanner => exact Ram.write_rising rising
  | statusWriter =>
    cases s.part.status.write with
    | none => exact rising
    | some i => exact Ram.write_rising rising
  | slipWriter => exact Ram.write_rising rising
  | dispatcher => exact rising

/-! ## Which request goes first -/

theorem urgentRequest_low (low : p.urgent .lineSender = true) : p.urgentRequest = some .lineSender := by
  simp [Part.urgentRequest, low]

theorem urgentRequest_high (not_low : p.urgent .lineSender = false) (high : p.urgent .scanner = true) :
    p.urgentRequest = some .scanner := by
  simp [Part.urgentRequest, not_low, high]

theorem urgentRequest_none (not_low : p.urgent .lineSender = false) (not_high : p.urgent .scanner = false) :
    p.urgentRequest = none := by
  simp [Part.urgentRequest, not_low, not_high]

theorem urgent_lineSender_iff :
    p.urgent .lineSender = true ↔ p.wants .lineSender = true ∧ p.sender.fifo.length ≤ 16 := by simp [Part.urgent]

theorem urgent_scanner_iff :
    p.urgent .scanner = true ↔ p.wants .scanner = true ∧ 48 ≤ p.scanner.fifo.length := by simp [Part.urgent]

/-- The host is granted the port at a count of 1, or with nothing urgent (R12). -/
theorem regrant_host (waiting : v.part.path.waiting = some ⟨a, n⟩)
    (first : 1 ≤ n ∨ v.part.urgentRequest = none) : regrant v = grantHost a v := by
  simp only [regrant, waiting]
  by_cases counted : 1 ≤ n
  · rw [if_pos counted]
  · rw [if_neg counted, first.resolve_left counted]

/-- An urgent request goes before an access that no transfer has gone before yet (R12, R13). -/
theorem regrant_urgent {r : Requester} (waiting : v.part.path.waiting = some ⟨a, 0⟩)
    (urgent : v.part.urgentRequest = some r) :
    regrant v = v.onPart fun p => (p.grant r).onPath fun m => { m with waiting := some ⟨a, 1⟩ } := by
  simp [regrant, waiting, urgent]

/-! ## The close of the event -/

theorem markChanges_of_dirty (dirty : p.status.dirty = true) (before : Part) : markChanges before p = p := by
  rcases markChanges_cases before p with same | marked
  · exact same
  · rw [marked]
    obtain ⟨⟩ := p
    simp only [Part.onStatus] at dirty ⊢
    rw [← dirty]

/-- The close of an event looks back at the demand in force and at the fields shown alone. -/
theorem closeEvent_congr {first second : Part}
    (demand : first.servo.demands.inForce = second.servo.demands.inForce)
    (shown : statusFields first = statusFields second ∨ p.status.dirty = true) :
    closeEvent first p = closeEvent second p := by
  have settles : settleDemand (finishJobs p).awaitsDispatch first (finishJobs p) =
      settleDemand (finishJobs p).awaitsDispatch second (finishJobs p) := by
    simp only [settleDemand, foundBefore, demand]
  simp only [closeEvent, settles]
  rcases shown with same | dirty
  · simp only [markChanges, same]
  · have kept : (settleDemand (finishJobs p).awaitsDispatch second (finishJobs p)).status.dirty = true := by
      simpa using dirty
    rw [markChanges_of_dirty kept, markChanges_of_dirty kept]

/-- The state with no access waiting. -/
def State.unheld (s : State) : State :=
  { s with part := { s.part with path := { s.part.path with waiting := none } } }

theorem grantHost_unheld (a : HostAccess) (s : State) : grantHost a s.unheld = grantHost a s := rfl

theorem Port.eq_idle_of_outline {port : Port} (h : port.outline = .idle) : port = .idle := by
  cases port <;> simp_all [Port.outline]

theorem finished_port (t : Transfer) (s : State) : (finishTransfer t (freePort s)).part.path.port = .idle :=
  Port.eq_idle_of_outline (congrArg Prod.fst (finishTransfer_access t (freePort s)))

theorem finished_waiting (t : Transfer) (s : State) :
    (finishTransfer t (freePort s)).part.path.waiting = s.part.path.waiting :=
  congrArg Prod.snd (finishTransfer_access t (freePort s))

theorem completeTransfer_part {tr : Transfer} (port : s.part.path.port = .part tr) :
    completeTransfer s = State.closeFrom s (regrant (finishTransfer tr (freePort s))) := by
  simp only [completeTransfer, port]

section
variable {tr : Transfer} (port : s.part.path.port = .part tr) (waiting : s.part.path.waiting = some ⟨a, n⟩)
include port waiting

/-- A granted access is all that it is at an idle port (R1 to R7). -/
theorem completeTransfer_host
    (first : 1 ≤ n ∨ (finishTransfer tr (freePort s)).part.urgentRequest = none) :
    completeTransfer s = hostAccess a (finishTransfer tr (freePort s)).unheld := by
  have idle : (finishTransfer tr (freePort s)).unheld.busIdle = true :=
    State.busIdle_iff.mpr ⟨finished_port tr s, rfl⟩
  have demand : s.part.servo.demands.inForce =
      (finishTransfer tr (freePort s)).unheld.part.servo.demands.inForce :=
    congrArg (fun v : Servo => v.demands.inForce) (finishTransfer_servo tr (freePort s)).symm
  have shown : statusFields s.part = statusFields (finishTransfer tr (freePort s)).unheld.part ∨
      (grantHost a (finishTransfer tr (freePort s))).part.status.dirty = true :=
    (finishTransfer_shown tr (freePort s)).imp Eq.symm (grantHost_dirty _ a)
  rw [completeTransfer_part port, regrant_host ((finished_waiting tr s).trans waiting) first, hostAccess_idle idle,
    grantHost_unheld, State.closeFrom, State.closeFrom, State.onPart, State.onPart, closeEvent_congr demand shown]

/-- An urgent request is granted, and counted with the access that waits (R12). -/
theorem completeTransfer_urgent {r : Requester} (uncounted : n = 0)
    (urgent : (finishTransfer tr (freePort s)).part.urgentRequest = some r) :
    (completeTransfer s).part.path.port = .part ((finishTransfer tr (freePort s)).part.transferOf r) ∧
      (completeTransfer s).part.path.waiting = some ⟨a, 1⟩ := by
  subst uncounted
  rw [completeTransfer_part port, regrant_urgent ((finished_waiting tr s).trans waiting) urgent]
  have granted (p : Part) : ((p.grant r).onPath fun m => { m with waiting := some ⟨a, 1⟩ }).path.port =
      .part (p.transferOf r) := by simp
  refine ⟨?_, ?_⟩
  · have busy := granted (finishTransfer tr (freePort s)).part
    exact (closeEvent_port _ s.part (by rw [State.onPart_part, busy]; simp)).trans busy
  · rw [State.closeFrom_part, closeEvent_path]
    rfl

end

end

theorem hostAccess_idle_part {s : State} (idle : s.busIdle = true) (a : HostAccess) :
    (hostAccess a s).part.path.port = .host ∧ (hostAccess a s).part.path.waiting = none := by
  have access : (grantHost a s).part.path.access = (.host, none) := serveAccess_access _ a
  have port : (grantHost a s).part.path.port = .host := by
    have outline : (grantHost a s).part.path.port.outline = .host := congrArg Prod.fst access
    revert outline
    cases (grantHost a s).part.path.port <;> simp [Port.outline]
  rw [hostAccess_idle idle, State.closeFrom_part]
  refine ⟨(closeEvent_port _ s.part (by simp [port])).trans port, ?_⟩
  rw [closeEvent_path]
  exact grantHost_waiting s a

/-- A read on an idle port puts the RAM byte on D0-D7 (R1). -/
theorem hostAccess_read {s : State} (idle : s.busIdle = true) (x : Nat) :
    (hostAccess (.read x) s).part.path.dataOut = s.ram.read x ∧ (hostAccess (.read x) s).ram = s.ram := by
  rw [hostAccess_idle idle]
  refine ⟨?_, rfl⟩
  rw [State.closeFrom_part, closeEvent_path]
  simp only [grantHost, serveAccess, serveRead_part]
  split <;> simp

/-- A write on an idle port reaches RAM unless the guard set drops it (R2). -/
theorem hostAccess_write_ram {s : State} (idle : s.busIdle = true) (x : Nat) (b : Byte) :
    (hostAccess (.write x b) s).ram = if s.part.drops x then s.ram else s.ram.write x b := by
  rw [hostAccess_idle idle]
  exact serveWrite_ram _ x b

/-- Settles O34: after the byte has moved, a granted access finds an idle port. -/
theorem completionGrantsByTheWaitingCount : Obligations.CompletionGrantsByTheWaitingCount := by
  unfold Obligations.CompletionGrantsByTheWaitingCount
  intro s tr a n port waiting v u low high idle dropped
  have free : idle.busIdle = true := State.busIdle_iff.mpr ⟨finished_port tr s, rfl⟩
  have quiets (settled : s.part.settled = true) : quiet idle := by
    refine ⟨free, (Part.settled_congr rfl rfl rfl).trans (finishTransfer_settled (s := freePort s) ?_ tr)⟩
    exact (Part.settled_congr rfl rfl rfl).trans settled
  have calm (nothing : ¬ low ∧ ¬ high) : u.urgentRequest = none :=
    urgentRequest_none (by rw [Bool.eq_false_iff, ne_eq, urgent_lineSender_iff]; exact nothing.1)
      (by rw [Bool.eq_false_iff, ne_eq, urgent_scanner_iff]; exact nothing.2)
  have granted (first : 1 ≤ n ∨ (¬ low ∧ ¬ high)) : completeTransfer s = hostAccess a idle :=
    completeTransfer_host port waiting (first.imp_right calm)
  refine ⟨quiets, fun first => ⟨fun x read => ?_, fun x b write => ?_⟩, completeTransfer s, rfl, fun first => ?_,
    fun uncounted urgent => ?_, fun uncounted calm urgent => ?_⟩
  · have served := granted first
    rw [read] at served
    obtain ⟨out, ram⟩ := hostAccess_read free x.toNat
    rw [← served] at out ram
    exact ⟨congrArg Host.Outcome.next served, _, rfl, out, fun y => by rw [ram]⟩
  · have served := granted first
    rw [write] at served
    have drops_iff : idle.part.drops x.toNat = true ↔ dropped x.toNat := Bool.and_eq_true_iff
    have ram := hostAccess_write_ram free x.toNat b
    rw [← served] at ram
    refine ⟨congrArg Host.Outcome.next served, fun wf => ⟨_, rfl, fun drops y => ?_, fun forwards => ⟨?_, fun y other => ?_⟩⟩⟩
    · rw [ram, if_pos (drops_iff.mpr drops)]
    · rw [ram, if_neg (mt drops_iff.mp forwards)]
      exact Ram.read_write_of_rising (finishTransfer_rising (s := freePort s) wf tr)
    · rw [ram, if_neg (mt drops_iff.mp forwards)]
      exact Ram.read_write_other other
  · rw [granted first]
    exact hostAccess_idle_part free a
  · exact completeTransfer_urgent port waiting uncounted (urgentRequest_low (urgent_lineSender_iff.mpr urgent))
  · refine completeTransfer_urgent port waiting uncounted (urgentRequest_high ?_ (urgent_scanner_iff.mpr urgent))
    rw [Bool.eq_false_iff, ne_eq, urgent_lineSender_iff]
    exact calm

end Sys2Proof.Machine
end

section
/-! The bytes that completed transfers move (R29, R30, R95, R130, R132, R156, R157, R162). -/

namespace Sys2Proof.Machine

open Sys2Proof.Claims (answers ends endsIn leaves stores slipImage statusImage codesStand)

/-! ## The images in RAM -/

theorem codes_stand : codesStand :=
  ⟨rfl, rfl, rfl, rfl, rfl, rfl, rfl, rfl, rfl, rfl, rfl, rfl⟩

theorem nibbles_of_small {high low : Nat} (high_small : high < 16) (low_small : low < 16) :
    nibbles high low = BitVec.ofNat 8 (16 * high + low) := by
  rw [nibbles, Nat.mod_eq_of_lt high_small, Nat.mod_eq_of_lt low_small]

theorem DeviceState.code_lt (d : DeviceState) : d.code < 16 := by cases d <;> decide
theorem ScannerState.code_lt (c : ScannerState) : c.code < 16 := by cases c <;> decide
theorem SenderState.code_lt (d : SenderState) : d.code < 16 := by cases d <;> decide
theorem DrumState.code_lt (d : DrumState) : d.code < 16 := by cases d <;> decide

/-- A status block is that of Table 12.2-1. -/
theorem statusBytes_eq_statusImage (p : Part) : (List.range 32).map (statusByte p) = statusImage p := by
  have states : statusByte p 7 = BitVec.ofNat 8 (16 * p.loader.device.code + p.scanner.state.code) :=
    nibbles_of_small (DeviceState.code_lt _) (ScannerState.code_lt _)
  have drives : statusByte p 8 = BitVec.ofNat 8 (16 * p.sender.state.code + p.servo.drum.code) :=
    nibbles_of_small (SenderState.code_lt _) (DrumState.code_lt _)
  have tone : statusByte p 30 = BitVec.ofNat 8 ((p.status.lastTone.map Tone.code).getD 0) := by
    cases tone : p.status.lastTone <;> simp [statusByte, tone, lowByte]
  simp only [List.range, List.range.loop, List.map_cons, List.map_nil, states, drives, tone]
  rfl

theorem eventBytes_length (events : List JobEvent) (i : Nat) : (eventBytes events i).length = 3 := by
  unfold eventBytes
  split <;> rfl

theorem detailBytes_length (d : Option Detail) : (detailBytes d).length = 4 := by
  cases d <;> rfl

/-- A slip fills its entry (Table 12.5-1). -/
theorem slipImage_length (sl : Slip) (sequence : Byte) : (slipImage sl sequence).length = 48 := by
  rw [← Slip.bytes_eq_slipImage]
  simp [Slip.bytes, wordBytes, eventBytes_length, detailBytes_length]

/-! ## A completion with nothing waiting -/

section
variable {p : Part} {s : State} {tr : Transfer}

theorem closeEvent_grantIdle {before : Part} (settled : p.settled = true)
    (demand : p.servo.demands.inForce = before.servo.demands.inForce) :
    closeEvent before (grantIdle p) = ends before p := by
  have granted : (grantIdle p).settled = true := (Part.settled_congr (by simp) (by simp) (by simp)).trans settled
  rw [closeEvent_ends granted (by simpa using demand), ends_grantIdle]

section
variable (settled : s.part.settled = true) (waiting : s.part.path.waiting = none) (port : s.part.path.port = .part tr)
include settled waiting port

/-- With nothing waiting the byte moves and the port is granted anew (R12). -/
theorem completeTransfer_ends : completeTransfer s =
    ⟨ends s.part (finishTransfer tr (freePort s)).part, (finishTransfer tr (freePort s)).ram, s.pending⟩ := by
  have moved : (finishTransfer tr (freePort s)).part.settled = true :=
    finishTransfer_settled (s := freePort s) ((Part.settled_congr rfl rfl rfl).trans settled) tr
  have demand : (finishTransfer tr (freePort s)).part.servo.demands.inForce = s.part.servo.demands.inForce :=
    congrArg (fun v : Servo => v.demands.inForce) (finishTransfer_servo tr (freePort s))
  have none_waits := (finished_waiting tr s).trans waiting
  have queue : (finishTransfer tr (freePort s)).pending = s.pending := finishTransfer_pending _ _
  rw [completeTransfer_part port, regrant, none_waits, State.closeFrom, ← closeEvent_grantIdle moved demand, ← queue]
  rfl

theorem leaves_of_complete {q : Part} (moved : (finishTransfer tr (freePort s)).part = q)
    (ram : (finishTransfer tr (freePort s)).ram = s.ram) : leaves .transferComplete s q :=
  ⟨_, congrArg Host.Outcome.next (completeTransfer_ends settled waiting port), congrArg (ends s.part) moved, rfl,
    fun a => congrArg (Ram.read · a) ram⟩

theorem stores_of_complete {q : Part} {x : Nat} {b : Byte} (wf : s.ram.wf = true)
    (moved : (finishTransfer tr (freePort s)).part = q)
    (ram : (finishTransfer tr (freePort s)).ram = s.ram.write x b) : stores .transferComplete s x b q :=
  ⟨_, congrArg Host.Outcome.next (completeTransfer_ends settled waiting port), congrArg (ends s.part) moved, rfl,
    (congrArg (Ram.read · x) ram).trans (Ram.read_write_same wf),
    fun a other => (congrArg (Ram.read · a) ram).trans (Ram.read_write_other other)⟩

end

/-- A host transfer that completes releases WAIT (R12). -/
theorem leaves_of_host (settled : s.part.settled = true) (waiting : s.part.path.waiting = none)
    (port : s.part.path.port = .host) : leaves .transferComplete s
      { s.part with path := { s.part.path with port := .idle, wait := false } } := by
  have freed : completeTransfer s = s.onPart fun p =>
      closeEvent p (grantIdle { p with path := { p.path with port := .idle, wait := false } }) := by
    have none_waits : ((freePort s).onPart fun p => p.onPath fun m => { m with wait := false }).part.path.waiting =
        none := waiting
    simp only [completeTransfer, port, regrant, none_waits]
    rfl
  have still : ({ s.part with path := { s.part.path with port := .idle, wait := false } } : Part).settled = true :=
    (Part.settled_congr rfl rfl rfl).trans settled
  have run : completeTransfer s = s.onPart fun p =>
      ends p { p with path := { p.path with port := .idle, wait := false } } :=
    freed.trans (congrArg (fun q : Part => ({ s with part := q } : State)) (closeEvent_grantIdle still rfl))
  exact ⟨_, congrArg Host.Outcome.next run, rfl, rfl, fun _ => rfl⟩

/-! ## A byte of the line in hand -/

theorem receiveByte_of_hand {h : LineInHand} (hand : p.sender.hand = some h) (b : Byte) :
    receiveByte b p = judgeHeader h b (p.onSender fun d =>
      { d with hand := some (h.take b), fifo := if h.keeps then d.fifo ++ [b] else d.fifo }) := by
  simp only [receiveByte, hand]

/-- Bytes of the line itself pass on to the FIFO when they come in time (R132, R133). -/
theorem receiveByte_pixel {h : LineInHand} (hand : p.sender.hand = some h) (pixel : 4 ≤ h.nextRead) (b : Byte) :
    receiveByte b p = p.onSender fun d =>
      { d with hand := some { h with nextRead := h.nextRead + 1 },
               fifo := if h.nextSlot ≤ h.nextRead - 4 then d.fifo ++ [b] else d.fifo } := by
  have unjudged (q : Part) : judgeHeader h b q = q := if_neg fun judged => by
    have := judged.2.2
    omega
  have taken : h.take b = { h with nextRead := h.nextRead + 1 } := by
    unfold LineInHand.take
    split
    · omega
    · omega
    · omega
    · rfl
  simp [receiveByte_of_hand hand, unjudged, taken, LineInHand.keeps, pixel]

/-- A header byte goes no further than the line in hand; the line number of a taken feed line is judged (R130). -/
theorem receiveByte_header {h : LineInHand} (hand : p.sender.hand = some h) (header : h.nextRead < 4) (b : Byte) :
    receiveByte b p = judgeHeader h b (p.onSender fun d => { d with hand := some (h.take b) }) := by
  have early : ¬ 4 ≤ h.nextRead := by omega
  simp [receiveByte_of_hand hand, LineInHand.keeps, early]

theorem judgeHeader_of_ne {h : LineInHand} (other : h.nextRead ≠ 1) (b : Byte) (q : Part) : judgeHeader h b q = q :=
  if_neg fun judged => other judged.2.2

theorem judgeHeader_feed {h : LineInHand} {j : Job} {q : Part} (taken : h.kind = .taken) (feed : h.ring = .feed)
    (number : h.nextRead = 1) (job : q.disp.relayJob = some j) (b : Byte) :
    judgeHeader h b q = if h.headerLow.toNat + 256 * b.toNat + 1 = j.tally.linesFresh then q
      else q.onDisp fun d => { d with relayJob := some { j with tally := j.tally.place .feedOrder q.sender.line } } := by
  have placed : offer .relay .feedOrder .sender q = q.onTally .relay fun t => t.place .feedOrder q.sender.line :=
    offer_placed rfl fun _ _ => rfl
  have tally : (q.onTally .relay fun t => t.place .feedOrder q.sender.line) =
      q.onDisp fun d => { d with relayJob := some { j with tally := j.tally.place .feedOrder q.sender.line } } := by
    simp only [Part.onTally, Part.onJob, Part.onDisp, job, Option.map_some]
  simp only [judgeHeader, taken, feed, number, job, and_self, if_true, placed, tally]
  rfl

/-! ## A byte of the status block -/

theorem statusByteWritten_eq (i : Nat) (p : Part) : statusByteWritten i (statusByte p i) p =
    { p with status := { p.status with write := if i + 1 < 32 then some (i + 1) else none,
                                       lastByte1 := if i = 1 then p.status.pending else p.status.lastByte1,
                                       fresh := if i = 1 then 0 else p.status.fresh,
                                       attn := if i = 1 then attnLevel p.status.pending p.settings.attentionMask
                                         else p.status.attn } } := by
  unfold statusByteWritten
  by_cases causes : i = 1
  · subst causes
    rfl
  · simp only [if_neg causes]
    rfl

/-! ## Every byte of a transfer -/

/-- Settles O33: each requester's completion, by what its byte does to its owner. -/
theorem transferCompleteMovesTheByte : Obligations.TransferCompleteMovesTheByte := by
  refine ⟨codes_stand, statusBytes_eq_statusImage,
    fun sl sequence => ⟨Slip.bytes_eq_slipImage sl sequence, slipImage_length sl sequence⟩, fun _ _ _ => rfl, ?_⟩
  intro s x b settled wf waiting p m
  refine ⟨leaves_of_host settled waiting, fun port => stores_of_complete settled waiting port wf rfl rfl, ?_, ?_,
    fun port => leaves_of_complete settled waiting port rfl rfl,
    fun port => stores_of_complete settled waiting port wf rfl rfl, ?_, ?_, ?_⟩
  · intro h port hand pixel
    exact leaves_of_complete settled waiting port (receiveByte_pixel (p := (freePort s).part) hand pixel _) rfl
  · intro h j port hand header taken feed job c number q
    have read := receiveByte_header (p := (freePort s).part) hand header c
    have judged (first : h.nextRead = 1) :=
      judgeHeader_feed (q := (freePort s).part.onSender fun d => { d with hand := some (h.take c) }) taken feed first job c
    refine ⟨fun at0 => ?_, fun at1 fresh => ?_, fun at1 stale => ?_, fun at2 => ?_, fun at3 => ?_⟩
    · refine leaves_of_complete settled waiting port (read.trans ((judgeHeader_of_ne (by omega) c _).trans ?_)) rfl
      simp only [q, LineInHand.take, at0]
      rfl
    · refine leaves_of_complete settled waiting port (read.trans (((judged at1).trans (if_pos fresh)).trans ?_)) rfl
      simp only [q, LineInHand.take, at1]
      rfl
    · refine leaves_of_complete settled waiting port (read.trans (((judged at1).trans (if_neg stale)).trans ?_)) rfl
      simp only [q, LineInHand.take, at1]
      rfl
    · refine leaves_of_complete settled waiting port (read.trans ((judgeHeader_of_ne (by omega) c _).trans ?_)) rfl
      simp [q, LineInHand.take, at2, feed, taken]
      rfl
    · refine leaves_of_complete settled waiting port (read.trans ((judgeHeader_of_ne (by omega) c _).trans ?_)) rfl
      simp only [q, LineInHand.take, at3]
      rfl
  · intro i port write
    have moved : finishTransfer ⟨.statusWriter, x, b, false⟩ (freePort s) =
        ((freePort s).onRam fun m => m.write x (statusByte (freePort s).part i)).onPart
          (statusByteWritten i (statusByte (freePort s).part i)) := by
      have writing : (freePort s).part.status.write = some i := write
      simp only [finishTransfer, writing]
    exact stores_of_complete settled waiting port wf
      ((congrArg State.part moved).trans (statusByteWritten_eq i (freePort s).part)) (congrArg State.ram moved)
  · intro w port write early
    exact stores_of_complete settled waiting port wf (slipByteWritten_early (p := (freePort s).part) write early) rfl
  · intro f port fetch early
    exact leaves_of_complete settled waiting port (fetchByte_early (p := (freePort s).part) fetch early _) rfl

/-! ## The ends of a fetch and of a slip write -/

/-- Settles O36: the last byte takes or discards the record. -/
theorem lastFetchByteTakesTheRecord : Obligations.LastFetchByteTakesTheRecord := by
  intro s tr f settled waiting port who fetch full p d m
  have ended := fetchByte_last (p := (freePort s).part) fetch (by omega) (s.ram.read tr.offset)
  have moved : finishTransfer tr (freePort s) = (freePort s).onPart (fetchByte (s.ram.read tr.offset)) := by
    simp only [finishTransfer, who]
    rfl
  exact leaves_of_complete settled waiting port ((congrArg State.part moved).trans ended)
    ((congrArg State.ram moved).trans rfl)

/-- Settles O41: the last byte ends the slip write. -/
theorem lastSlipByteEndsTheWrite : Obligations.LastSlipByteEndsTheWrite := by
  intro s tr w settled wf waiting port who write full p
  have ended := slipByteWritten_last (p := (freePort s).part) write (by omega)
  have moved : finishTransfer tr (freePort s) =
      ((freePort s).onRam fun m => m.write tr.offset tr.byte).onPart slipByteWritten := by
    simp only [finishTransfer, who]
  exact stores_of_complete settled waiting port wf ((congrArg State.part moved).trans ended) (congrArg State.ram moved)

/-! ## The starts of a fetch, a slip write and a status write -/

/-- A step of the part's own acts when its conditions hold (log 3). -/
theorem leaves_of_ready {c : Instr} {q : Part} {ready : Part → Bool} {f : Part → Part}
    (run : exec c s = .next (s.onPart fun p => if ready p then closeEvent p (f p) else p))
    (met : ready s.part = true) (event : closeEvent s.part (f s.part) = ends s.part q) : leaves c s q := by
  have acts : (if ready s.part then closeEvent s.part (f s.part) else s.part) = ends s.part q :=
    (if_pos met).trans event
  exact ⟨_, run, acts, rfl, fun _ => rfl⟩

/-- Settles O35: the prefetch sets out beside no pending job. -/
theorem fetchStartGuardsTheEntry : Obligations.FetchStartGuardsTheEntry := by
  intro s settled opened pending fetch entries
  have ready : s.part.fetchReady = true := by simp [Part.fetchReady, opened, pending, fetch, entries]
  have alone : (startFetch s.part).disp.fetchesAlone = true := by simp [startFetch, Dispatcher.fetchesAlone, pending]
  have still : (startFetch s.part).settled = true :=
    Part.settled_of_jobs settled rfl rfl rfl alone fun _ _ due => by
      simp [awaitsDispatch_of_no_record pending] at due
  exact leaves_of_ready rfl ready (closeEvent_ends still rfl)

/-- Settles O40: a slip and a status block go out when the conditions of R156 and R161 hold. -/
theorem slipAndStatusWritesStart : Obligations.SlipAndStatusWritesStart := by
  intro s settled p
  refine ⟨fun opened queued idle free => ?_, fun placed dirty idle shut due => ?_⟩
  · have ready : s.part.slipReady = true := by
      simp only [Part.slipReady, Bool.and_eq_true, decide_eq_true_eq]
      exact ⟨⟨⟨opened, by simpa using queued⟩, by simpa using idle⟩, free⟩
    exact leaves_of_ready rfl ready (closeEvent_of_work settled rfl rfl rfl)
  · have passed : s.part.status.urgent = true ∨ s.part.spacingPassed = true := by
      refine due.imp_right fun passed => ?_
      rcases passed with none_counts | ⟨n, counts, enough⟩
      · simp [Part.spacingPassed, show s.part.status.spacing = none from none_counts]
      · simp [Part.spacingPassed, show s.part.status.spacing = some n from counts,
          show s.part.spacingTicks ≤ n from enough]
    have ready : s.part.statusReady = true := by
      simp only [Part.statusReady, Bool.and_eq_true, Bool.or_eq_true]
      exact ⟨⟨⟨⟨placed, dirty⟩, by simpa using idle⟩, by simpa using shut⟩, passed⟩
    exact leaves_of_ready rfl ready (closeEvent_of_work settled rfl rfl rfl)

end

end Sys2Proof.Machine
end

section
/-! Counts, pulses and samples (R62, R70, R82, R86, R88, R97, R115, R116). -/

namespace Sys2Proof.Machine

open Sys2Proof.Claims (ends endsIn leaves)

section
variable {s : State} {c : Instr} {p q : Part} {f : Part → Part}

/-- A command that runs one function on the part. -/
theorem endsIn_of_run (run : exec c s = .next (s.onPart f)) (result : f s.part = q) : endsIn c s q :=
  ⟨_, run, result, rfl, fun _ => rfl⟩

/-! ## The job timer -/

theorem startRead_eq (p : Part) : startRead p =
    { p with loader := if p.loader.device = .loading ∧ p.loader.reading = false
        then { p.loader with reading := true, cfck := false, sent := [0x03, 0x00], shifted := 0, image := [], sum := 0 }
        else p.loader } := by
  by_cases begins : p.loader.device = .loading ∧ p.loader.reading = false
  · rw [if_pos begins]
    exact if_pos (by simpa using begins)
  · rw [if_neg begins]
    exact if_neg (by simpa using begins)

theorem waits_iff (d : SenderState) : d.waits = true ↔ d = .calling ∨ d = .awaitReceipt := by
  cases d <;> simp [SenderState.waits]

/-- Settles O42: each count on the job timer goes on by its own rule. -/
theorem jobTimerExpiryCounts : Obligations.JobTimerExpiryCounts := by
  intro s pins released p begins v c d
  refine endsIn_of_run rfl ?_
  have running : (s.part.setPins pins).resetActive = false := released
  have offered : (d.lossOffered && !pins.lsn) = if pins.lsn = true then false else d.lossOffered := by
    cases pins.lsn <;> simp
  have timeout : (if d.state.waits then d.timeout + 1 else d.timeout) =
      if d.state = .calling ∨ d.state = .awaitReceipt then d.timeout + 1 else d.timeout :=
    ite_congr (propext (waits_iff d.state)) (fun _ => rfl) fun _ => rfl
  simp only [running, Bool.false_eq_true, if_false, expireJobTimer, startRead_eq]
  simp only [p, v, c, d, begins] at offered timeout ⊢
  rw [← offered, ← timeout]
  rfl

/-- Settles O43: the lamp settle count ends WARMUP. -/
theorem lampSettleEndsWarmup : Obligations.LampSettleEndsWarmup := by
  intro s settled warm counted
  have due : s.part.lampDue = true := by simp [Part.lampDue, warm, counted]
  have waits : enterWaitLock s.part = { s.part with scanner := { s.part.scanner with
      state := .waitLock,
      armed := if s.part.scanLive = true ∧ s.part.servo.drum = .locked then true else s.part.scanner.armed } } := by
    by_cases arms : s.part.scanLive = true ∧ s.part.servo.drum = .locked
    · simp only [if_pos arms]
      exact if_pos ⟨rfl, arms⟩
    · simp only [if_neg arms]
      exact if_neg fun waiting => arms waiting.2
  refine leaves_of_ready rfl due ?_
  rw [waits]
  exact closeEvent_of_work settled rfl rfl rfl

/-! ## The PWM counter -/

/-- The PWM counter and the duty in use. -/
def Part.pwm (p : Part) : Nat × Nat := (p.clock.pwmCount, p.servo.activeDuty)

theorem wrapTick_pwm (p : Part) : (wrapTick p).pwm = p.pwm := by
  unfold wrapTick
  split <;> rfl

theorem passTick_pwm (p : Part) : (passTick p).pwm = p.pwm := by
  unfold passTick moveTick
  split
  · exact wrapTick_pwm _
  · rfl

theorem clockLink_pwm (p : Part) : (clockLink p).pwm = p.pwm := by
  unfold clockLink
  split <;> rfl

/-- Of a beat, only the move of the PWM counter acts on it (R62). -/
theorem passBeat_pwm (p : Part) : (passBeat p).pwm = (movePwm p).pwm := by
  have micro (q : Part) : (passMicro q).pwm = q.pwm := rfl
  have chosen {c : Prop} [Decidable c] {q r : Part} (same : q.pwm = r.pwm) : (if c then q else r).pwm = r.pwm := by
    split
    · exact same
    · rfl
  refine (chosen (passTick_pwm _)).trans ((chosen (micro _)).trans ?_)
  exact clockLink_pwm (movePwm p)

theorem movePwm_pwm (running : p.clock.pwmCount < 1024) : (movePwm p).pwm =
    ((p.clock.pwmCount + 1) % 1024, if p.clock.pwmCount = 1023 then p.servo.nextDuty else p.servo.activeDuty) := by
  by_cases last : p.clock.pwmCount = 1023
  · have turns : Config.pwmCounts ≤ p.clock.pwmCount + 1 := by rw [last]; exact Nat.le_refl 1024
    simp only [last]
    exact congrArg Part.pwm (if_pos turns)
  · have counts : ¬ Config.pwmCounts ≤ p.clock.pwmCount + 1 := by
      change ¬ 1024 ≤ _
      omega
    rw [if_neg last, Nat.mod_eq_of_lt (by omega)]
    exact congrArg Part.pwm (if_neg counts)

theorem wrapTick_eq (p : Part) : wrapTick p =
    { p with clock := { p.clock with tick := 0 },
             servo := { p.servo with wraps := if p.servo.reference.isSome then min 255 (p.servo.wraps + 1)
               else p.servo.wraps } } := by
  by_cases held : p.servo.reference.isSome = true
  · simp only [wrapTick, if_pos held]
    rfl
  · simp only [wrapTick, if_neg held]
    rfl

/-- Settles O48: the tick counter and the PWM counter at their returns to 0. -/
theorem tickWrapAndPwmPeriod : Obligations.TickWrapAndPwmPeriod := by
  refine ⟨?_, fun s released => ⟨?_, ?_⟩⟩
  · intro p running full
    obtain ⟨count, duty⟩ := Prod.mk.inj ((passBeat_pwm p).trans (movePwm_pwm running))
    exact ⟨count, duty, decide_eq_true_iff, decide_eq_true_iff.mpr running⟩
  · refine endsIn_of_run rfl ?_
    exact (if_neg (by simp [released])).trans (wrapTick_eq s.part)
  · refine endsIn_of_run rfl ?_
    exact if_neg (by simp [released])

/-! ## The carriage -/

/-- Settles O56: a forward pulse and a homing pulse. -/
theorem stepPulsesMoveTheCarriage : Obligations.StepPulsesMoveTheCarriage := fun _ _ =>
  ⟨fun owed => endsIn_of_run rfl (if_pos owed), fun homing => endsIn_of_run rfl (if_pos homing)⟩

/-! ## The tone sample -/

theorem sine_bounds (i : Fin 256) : -127 ≤ sineTable i ∧ sineTable i ≤ 127 := by
  revert i
  decide +kernel

theorem sine_half_turn (i : Fin 256) : sineTable ((i + 128) % 256) = - sineTable i := by
  revert i
  decide +kernel

/-- A gain of at most 16 sixteenths keeps the sine in its bounds (R115). -/
theorem scaled_bounds {x : Int} {g : Nat} (low : -127 ≤ x) (high : x ≤ 127) (gain : g ≤ 16) :
    -127 ≤ x * (g : Int) / 16 ∧ x * (g : Int) / 16 ≤ 127 := by
  have gain_nonneg : (0 : Int) ≤ g := Int.natCast_nonneg g
  have gain_le : (g : Int) ≤ 16 := by exact_mod_cast gain
  have above : -127 * 16 ≤ x * (g : Int) := by
    have scaled : -127 * (g : Int) ≤ x * g := Int.mul_le_mul_of_nonneg_right low gain_nonneg
    omega
  have below : x * (g : Int) ≤ 127 * 16 := by
    have scaled : x * (g : Int) ≤ 127 * g := Int.mul_le_mul_of_nonneg_right high gain_nonneg
    omega
  omega

theorem toneOn_iff (d : SenderState) :
    d.toneOn = true ↔ d = .start ∨ d = .phasing ∨ d = .image ∨ d = .stop := by
  cases d <;> simp [SenderState.toneOn]

/-- Settles O57: the tone sample by the sender's state, and the bounds of the DAC code. -/
theorem toneSampleDrivesTxa : Obligations.ToneSampleDrivesTxa := by
  refine ⟨?_, fun phase g turn gain => ?_⟩
  · intro s released p clock phase
    refine ⟨fun j job sends => ?_, fun silent => ?_⟩
    all_goals refine endsIn_of_run rfl ?_
    · have on : s.part.sender.state.toneOn = true := (toneOn_iff _).mpr sends
      have gain : (s.part.onClock fun t => { t with beatInSample := 0 }).gain = j.spec.gain := by
        have holds : (s.part.onClock fun t => { t with beatInSample := 0 }).senderJob = some j := job
        simp only [Part.gain, holds]
      refine (if_neg (by simp [released])).trans ?_
      simp only [sampleTone, gain]
      exact if_pos on
    · have off : ¬ s.part.sender.state.toneOn = true := by
        rw [toneOn_iff]
        rcases silent with state | state | state | state <;> simp [show s.part.sender.state = _ from state]
      exact (if_neg (by simp [released])).trans (if_neg off)
  · have index : phase / 256 < 256 := by omega
    obtain ⟨low, high⟩ : -127 ≤ sineTable (phase / 256) ∧ sineTable (phase / 256) ≤ 127 :=
      sine_bounds ⟨phase / 256, index⟩
    obtain ⟨above, below⟩ := scaled_bounds low high gain
    have whole : sineTable (phase / 256) * ((16 : Nat) : Int) / 16 = sineTable (phase / 256) :=
      Int.mul_ediv_cancel _ (by decide)
    have none_scaled : sineTable (phase / 256) * ((0 : Nat) : Int) / 16 = 0 := by simp
    refine ⟨?_, ?_, ?_, ?_, sine_half_turn ⟨phase / 256, index⟩⟩
    · unfold dacCode; omega
    · unfold dacCode; omega
    · unfold dacCode; omega
    · unfold dacCode; omega

end

end Sys2Proof.Machine
end

section
/-! The settings image (R18 to R24), RESET and its release. -/

namespace Sys2Proof.Machine

open Sys2Proof.Claims (ends endsIn leaves answers settingsRead rangesChecked relationsChecked valuesDerived placement cycles)

section
variable {s : State} {p q : Part}

/-! ## The settings in an image -/

theorem settings_read : settingsRead := fun _ => ⟨rfl, rfl, rfl, rfl, rfl⟩

theorem inRange_iff {low high x : Nat} : inRange low high x = true ↔ low ≤ x ∧ x ≤ high := by
  simp [inRange]

theorem toneInRange_iff {t : ToneSetting} : toneInRange t = true ↔
    300 ≤ t.centre ∧ t.centre ≤ 3400 ∧ 10 ≤ t.tolerance ∧ t.tolerance ≤ 200 := by
  simp [toneInRange, inRange_iff, and_assoc]

/-- The table gives each ring's base and code in turn. -/
theorem codes_after_bases {job slip scan feed jobCode slipCode scanCode feedCode others : Prop} :
    (job ∧ jobCode ∧ slip ∧ slipCode ∧ scan ∧ scanCode ∧ feed ∧ feedCode ∧ others) ↔
      job ∧ slip ∧ scan ∧ feed ∧ jobCode ∧ slipCode ∧ scanCode ∧ feedCode ∧ others := by
  constructor
  · rintro ⟨job, jobCode, slip, slipCode, scan, scanCode, feed, feedCode, others⟩
    exact ⟨job, slip, scan, feed, jobCode, slipCode, scanCode, feedCode, others⟩
  · rintro ⟨job, slip, scan, feed, jobCode, slipCode, scanCode, feedCode, others⟩
    exact ⟨job, jobCode, slip, slipCode, scan, scanCode, feed, feedCode, others⟩

/-- The range check is Table 2.3-1, row by row (R21). -/
theorem ranges_checked : rangesChecked := by
  intro c
  simp only [Settings.rangesGood, List.all_cons, List.all_nil, id, Bool.and_true, Bool.and_eq_true, decide_eq_true_eq,
    inRange_iff, toneInRange_iff, Nat.zero_le, true_and, List.forall_mem_cons, List.not_mem_nil, false_implies,
    implies_true, and_true]
  simp only [and_assoc]
  exact and_congr_right' (and_congr_right' (and_congr_right' codes_after_bases))

/-! ## The relations of the settings -/

theorem Region.disjoint_iff {r t : Region} : r.disjoint t = true ↔
    r.start + r.length ≤ t.start ∨ t.start + t.length ≤ r.start := by
  simp [Region.disjoint]

theorem pairwiseDisjoint_iff (regions : List Region) : pairwiseDisjoint regions = true ↔
    regions.Pairwise fun r t => r.start + r.length ≤ t.start ∨ t.start + t.length ≤ r.start := by
  induction regions with
  | nil => simp [pairwiseDisjoint]
  | cons r rest ih => simp [pairwiseDisjoint, ih, Region.disjoint_iff]

theorem extents_eq_placement (c : Settings) : c.extents = placement c := rfl

theorem band_eq_cycles (t : ToneSetting) : t.band = cycles t := rfl

theorem Band.apart_iff {a b : Band} : a.apart b = true ↔ a.high < b.low ∨ b.high < a.low := by
  simp [Band.apart]

/-- The relation check is that of R22. -/
theorem relations_checked : relationsChecked := by
  intro c
  simp only [Settings.relationsGood, extents_eq_placement, band_eq_cycles, Bool.and_eq_true, Bool.or_eq_true,
    decide_eq_true_eq, pairwiseDisjoint_iff, List.all_eq_true, Band.usable_iff, Band.apart_iff, List.forall_mem_cons,
    List.pairwise_cons, List.not_mem_nil, false_implies, implies_true, and_true, List.Pairwise.nil, and_assoc]
  exact Iff.rfl

theorem values_derived : valuesDerived := fun _ => ⟨rfl, rfl, rfl, rfl, rfl, rfl, rfl⟩

/-! ## An image byte -/

theorem headerByteGood_iff (i : Nat) (b : Byte) : headerByteGood i b = true ↔
    (i = 0 → b = 0x48) ∧ (i = 1 → b = 0x43) ∧ (i = 2 → b = 0x01) ∧ (i = 3 → b = 0x97) := by
  unfold headerByteGood
  split <;> simp_all

/-- The four ways in which the checks of an image byte can go (R19 to R22). -/
theorem takeImageByte_refused (b : Byte) (bad : ¬ headerByteGood p.loader.image.length b = true) :
    takeImageByte b p = refuseImage (p.onLoader fun l => l.addByte b) := if_pos bad

theorem takeImageByte_joined {b : Byte} (header : headerByteGood p.loader.image.length b = true)
    (more : (p.loader.addByte b).image.length < 153) : takeImageByte b p = p.onLoader fun l => l.addByte b :=
  (if_neg (not_not_intro header)).trans (if_pos more)

theorem takeImageByte_decided {b : Byte} (header : headerByteGood p.loader.image.length b = true)
    (whole : ¬ (p.loader.addByte b).image.length < 153) : takeImageByte b p =
      if (p.loader.addByte b).imageGood then acceptImage (p.onLoader fun l => l.addByte b)
      else refuseImage (p.onLoader fun l => l.addByte b) :=
  (if_neg (not_not_intro header)).trans (if_neg whole)

/-- Settles O59: each image byte by its place and its value. -/
theorem imageBytesDecideTheStart : Obligations.ImageBytesDecideTheStart := by
  refine ⟨settings_read, ranges_checked, relations_checked, values_derived, ?_⟩
  intro b s settled loading reading p i image sum joined cfg header good refused
  have shut : s.part.isOpen = false := by simp [Part.isOpen, loading]
  have found := unsettled_of_not_open settled shut
  have acts {q : Part} (taken : takeImageByte b s.part = q) (disp : q.disp = s.part.disp)
      (servo : q.servo = s.part.servo) : leaves (.imageByteReceived b) s q := by
    have event : closeEvent s.part q = ends s.part q :=
      closeEvent_ends (Part.settled_of_found settled (by rw [servo, found]) servo (by rw [disp])) (by rw [servo])
    exact endsIn_of_run rfl ((if_pos ⟨loading, reading⟩).trans ((congrArg (closeEvent s.part) taken).trans event))
  have checked : headerByteGood s.part.loader.image.length b = true ↔ header := headerByteGood_iff i b
  have length : (s.part.loader.addByte b).image.length = i + 1 := by simp [Loader.addByte, i, p]
  have goodImage : (s.part.loader.addByte b).imageGood = true ↔ good := by
    simp only [Loader.imageGood, Bool.and_eq_true, decide_eq_true_eq, and_assoc]
    exact Iff.rfl
  refine ⟨fun bad => ?_, fun marks more => ?_, fun marks whole bad => ?_, fun marks whole fine => ?_⟩
  · exact acts (takeImageByte_refused b (mt checked.mp bad)) rfl rfl
  · exact acts (takeImageByte_joined (checked.mpr marks) (by omega)) rfl rfl
  · exact acts ((takeImageByte_decided (checked.mpr marks) (by omega)).trans (if_neg (mt goodImage.mp bad))) rfl rfl
  · exact acts ((takeImageByte_decided (checked.mpr marks) (by omega)).trans (if_pos (goodImage.mpr fine))) rfl rfl

/-! ## RESET -/

/-- Settles O60: RESET, the access it lets through, and the release. -/
theorem resetAndRelease : Obligations.ResetAndRelease := by
  intro s p at0
  refine ⟨fun none_waits => ?_, fun x n reads => ?_, fun x b n writes wf => ?_, fun active => ?_⟩
  · cases port : s.part.path.port with
    | host =>
      have holds : resetMachine s = s.onPart fun _ => at0 .host s.part.path.dataOut := by
        simp only [resetMachine, show s.part.path.waiting = none from none_waits, port]
        rfl
      rw [if_pos rfl]
      exact endsIn_of_exec (congrArg Host.Outcome.next holds)
    | idle | part =>
      have drops : resetMachine s = s.onPart fun _ => at0 .idle s.part.path.dataOut := by
        simp only [resetMachine, show s.part.path.waiting = none from none_waits, port]
        rfl
      rw [if_neg (by simp)]
      exact endsIn_of_exec (congrArg Host.Outcome.next drops)
  · have served : resetMachine s = s.onPart fun _ => at0 .host (s.ram.read x) := by
      simp only [resetMachine, show s.part.path.waiting = some ⟨.read x, n⟩ from reads]
      rfl
    exact endsIn_of_exec (congrArg Host.Outcome.next served)
  · have served : resetMachine s =
        (s.onPart fun _ => at0 .host s.part.path.dataOut).onRam fun m => m.write x b := by
      simp only [resetMachine, show s.part.path.waiting = some ⟨.write x b, n⟩ from writes]
      rfl
    exact ⟨_, congrArg Host.Outcome.next served, rfl, rfl, Ram.read_write_same wf,
      fun a other => Ram.read_write_other other⟩
  · exact endsIn_of_run rfl (if_pos active)

end

end Sys2Proof.Machine
end

section
/-! The sender at a slot start (R72, R79, R113, R119, R120, R133). -/

namespace Sys2Proof.Machine

open Sys2Proof.Claims (ends endsIn leaves slotIncrement)

section
variable {s : State} {p : Part} {h : LineInHand} {k : Nat}

/-! ## Slots without a pixel -/

theorem imageStateSlot_fixed (fixed : k < p.settings.strip ∨ p.settings.strip + p.settings.image ≤ k ∨
    p.sender.hand.map LineInHand.kind = some .white) : imageStateSlot k p = fixedWhite p := by
  unfold imageStateSlot
  by_cases outside : k < p.settings.strip ∨ p.settings.strip + p.settings.image ≤ k
  · exact if_pos outside
  · have white : p.sender.hand.map LineInHand.kind = some .white :=
      (or_assoc.mpr fixed).resolve_left outside
    rw [if_neg outside]
    split
    case h_1 h hand => exact if_pos (by simpa [hand] using white)
    case h_2 => rfl

/-- A slot that sends no pixel puts the increment of its state in force (R113, R120). -/
theorem senderSlotStart_fixed (fixed : p.sender.state ≠ .image ∨ k < p.settings.strip ∨
    p.settings.strip + p.settings.image ≤ k ∨ p.sender.hand.map LineInHand.kind = some .white) :
    senderSlotStart k p = setIncrement (slotIncrement p k) p := by
  unfold senderSlotStart slotIncrement
  cases state : p.sender.state with
  | image => exact imageStateSlot_fixed (fixed.resolve_left (not_not_intro state))
  | phasing => exact (apply_ite (setIncrement · p) _ _ _).symm
  | start | stop | idle | calling | standby | awaitReceipt => rfl

/-- Settles O52: each schedule hands its slot to the sender on its own clock. -/
theorem slotStartSetsTheIncrement : Obligations.SlotStartSetsTheIncrement := by
  intro s settled p fixed
  refine ⟨fun period schedule more => ?_, fun serves running begun more => ?_⟩
  · intro k a
    have held : s.part.startHeld = some (startOffset period s.part.derived.slots k) := by
      simp only [Part.startHeld, show s.part.angle.schedule = some period from schedule]
      exact if_pos more
    have acts {q : Part} (result : handStart (startOffset period s.part.derived.slots k) s.part = q)
        (opened : q.isOpen = s.part.isOpen) (servo : q.servo = s.part.servo) (disp : q.disp = s.part.disp) :
        leaves .slotStart s q := by
      refine endsIn_of_run rfl ?_
      simp only [held]
      rw [result]
      exact closeEvent_of_work settled opened servo (by rw [disp])
    refine ⟨fun timed => acts (if_pos timed) rfl rfl rfl, fun onDrum plain => acts ?_ rfl rfl rfl⟩
    exact (if_neg (by simpa using onDrum)).trans
      (senderSlotStart_fixed (p := { s.part with angle := a }) plain)
  · intro k m
    have held : s.part.timerStartHeld = some (startOffset s.part.timer.modulo s.part.derived.slots k) :=
      if_pos ⟨by simp [show s.part.timer.running = some serves from running], begun, more⟩
    have acts {q : Part} (result : handTimerStart (startOffset s.part.timer.modulo s.part.derived.slots k) s.part = q)
        (opened : q.isOpen = s.part.isOpen) (servo : q.servo = s.part.servo) (disp : q.disp = s.part.disp) :
        leaves .lineTimerSlotStart s q := by
      refine endsIn_of_run rfl ?_
      simp only [held]
      rw [result]
      exact closeEvent_of_work settled opened servo (by rw [disp])
    refine ⟨fun onDrum => acts (if_neg (by simpa using onDrum)) rfl rfl rfl, fun timed plain => acts ?_ rfl rfl rfl⟩
    exact (if_pos timed).trans (senderSlotStart_fixed (p := { s.part with timer := m }) plain)

/-! ## Image slots -/

theorem senderSlotStart_image (image : p.sender.state = .image) (hand : p.sender.hand = some h)
    (inside : k < p.settings.image) : senderSlotStart (p.settings.strip + k) p =
      if h.kind = .white then fixedWhite p else imageSlotStart k h p := by
  have within : ¬ (p.settings.strip + k < p.settings.strip ∨
      p.settings.strip + p.settings.image ≤ p.settings.strip + k) := by omega
  simp only [senderSlotStart, image, imageStateSlot, if_neg within, hand, Nat.add_sub_cancel_left]

/-- The pixel of the slot is in the FIFO behind pixels that came too late (R133). -/
theorem imageSlotStart_pixel {late rest : List Byte} {b : Byte} (fifo : p.sender.fifo = late ++ b :: rest)
    (number : headPixel h p.sender.fifo + late.length = k) : imageSlotStart k h p = sendPixel k h b rest p := by
  have reached : headPixel h p.sender.fifo ≤ k := by omega
  have dropped : p.sender.fifo.drop (k - headPixel h p.sender.fifo) = b :: rest := by
    rw [show k - headPixel h p.sender.fifo = late.length by omega, fifo, List.drop_left]
  simp only [imageSlotStart, dropped, if_pos reached]

/-- With no pixel of the slot's number in the FIFO the slot is an underrun (R133). -/
theorem imageSlotStart_underrun (missing : k < headPixel h p.sender.fifo ∨
    headPixel h p.sender.fifo + p.sender.fifo.length ≤ k) :
    imageSlotStart k h p = sendHeld k h (p.sender.fifo.drop (k - headPixel h p.sender.fifo)) p := by
  rcases missing with ahead | behind
  · have early : ¬ headPixel h p.sender.fifo ≤ k := by omega
    simp only [imageSlotStart, if_neg early]
    split
    case h_1 dropped => rw [dropped]
    case h_2 dropped => rw [dropped]
  · have dropped : p.sender.fifo.drop (k - headPixel h p.sender.fifo) = [] :=
      List.drop_eq_nil_of_le (by omega)
    simp only [imageSlotStart, dropped]

/-- Settles O53: an image slot with its pixel, without it, and of a white line. -/
theorem imageSlotSendsItsPixelOrUnderruns : Obligations.ImageSlotSendsItsPixelOrUnderruns := by
  refine ⟨?_, fun p h k hand white image inside => ?_⟩
  · intro p h k j hand pixels image inside job first curve tones heldLevel q
    have starts : q = imageSlotStart k h p := (senderSlotStart_image image hand inside).trans (if_neg pixels)
    have holder : p.senderJob = some j := by simp [Part.senderJob, Part.senderSlot, Part.jobAt, job]
    refine ⟨fun late b rest fifo number => ?_, fun missing => ?_⟩
    · have level : p.pixelLevel b = curveLevel curve b.toNat := by simp [Part.pixelLevel, holder, curve]
      rw [starts, imageSlotStart_pixel fifo number, sendPixel]
      simp only [level]
      rfl
    · rw [starts, imageSlotStart_underrun missing]
      have slot (d : Sender) : ({ p with sender := d } : Part).senderSlot = some .relay := by
        simp only [Part.senderSlot, job]
      simp only [sendHeld, Part.onSenderTally, Part.onSender, slot, Part.onTally, Part.onJob, Part.onDisp, job,
        Option.map_some]
      rfl
  · exact (senderSlotStart_image image hand inside).trans (if_pos white)

end

end Sys2Proof.Machine
end

section
/-! The first cause of a job: what the work of the sides leaves of it, its offer (R36 to R38), and where it stands when
the event has closed (R41). -/

namespace Sys2Proof.Machine

open Sys2Proof.Claims (causedIn)

section
variable {p q r : Part} {slot : JobSlot} {j : Job} {spec : JobSpec} {cause : Cause} {detail : Option Detail}

/-! ## Jobs that run on -/

/-- A job runs on with its record, and keeps its first cause and the detail once it has one. -/
def Job.runsOn (fixed : Bool) (j k : Job) : Prop :=
  k.spec = j.spec ∧ (j.firstCause.isSome = true ∨ fixed = true →
    k.firstCause = j.firstCause ∧ k.tally.detail = j.tally.detail)

/-- The jobs of `p` run on in `q`. A RELAY takes no first cause on its way; a STORE may take STORED (R104). -/
def Part.runOn (p q : Part) : Prop :=
  ∀ slot j, p.jobAt slot = some j → ∃ k, q.jobAt slot = some k ∧ j.runsOn (decide (slot = .relay)) k

theorem Job.runsOn_refl (fixed : Bool) (j : Job) : j.runsOn fixed j := ⟨rfl, fun _ => ⟨rfl, rfl⟩⟩

theorem Part.jobAt_congr (same : q.disp = p.disp) (slot : JobSlot) : q.jobAt slot = p.jobAt slot := by
  cases slot <;> simp only [Part.jobAt, same]

theorem Part.runOn_of_disp (same : q.disp = p.disp) : p.runOn q := fun slot j job =>
  ⟨j, (Part.jobAt_congr same slot).trans job, Job.runsOn_refl _ j⟩

theorem Part.runOn_trans (first : p.runOn q) (second : q.runOn r) : p.runOn r := by
  intro slot j job
  obtain ⟨k, at_k, spec_k, kept_k⟩ := first slot j job
  obtain ⟨l, at_l, spec_l, kept_l⟩ := second slot k at_k
  refine ⟨l, at_l, spec_l.trans spec_k, fun fixed => ?_⟩
  obtain ⟨cause_k, detail_k⟩ := kept_k fixed
  obtain ⟨cause_l, detail_l⟩ := kept_l (by rwa [cause_k])
  exact ⟨cause_l.trans cause_k, detail_l.trans detail_k⟩

theorem jobAt_onJob_same (p : Part) (slot : JobSlot) (f : Job → Job) :
    (p.onJob slot f).jobAt slot = (p.jobAt slot).map f := by
  cases slot <;> rfl

theorem jobAt_onJob_other {slot other : JobSlot} (ne : other ≠ slot) (p : Part) (f : Job → Job) :
    (p.onJob slot f).jobAt other = p.jobAt other := by
  cases slot <;> cases other <;> simp_all [Part.jobAt, Part.onJob]

theorem Part.runOn_refl (p : Part) : p.runOn p := Part.runOn_of_disp rfl

/-- A change of one job that leaves record, first cause and detail. -/
theorem runOn_onJob {f : Job → Job} (kept : ∀ j : Job, j.runsOn (decide (slot = .relay)) (f j)) (p : Part) :
    p.runOn (p.onJob slot f) := by
  intro other j job
  by_cases same : other = slot
  · subst same
    exact ⟨f j, by rw [jobAt_onJob_same, job, Option.map_some], kept j⟩
  · exact ⟨j, (jobAt_onJob_other same p f).trans job, Job.runsOn_refl _ j⟩

theorem runOn_onScanner (f : Scanner → Scanner) (p : Part) : p.runOn (p.onScanner f) := Part.runOn_of_disp rfl

theorem runOn_onTally {f : Tally → Tally} (kept : ∀ t, (f t).detail = t.detail) (p : Part) :
    p.runOn (p.onTally slot f) :=
  runOn_onJob (f := fun j => { j with tally := f j.tally }) (fun j => ⟨rfl, fun _ => ⟨rfl, kept j.tally⟩⟩) p

theorem runOn_choice {c : Prop} [Decidable c] (yes : p.runOn q) (no : p.runOn r) : p.runOn (if c then q else r) := by
  split
  · exact yes
  · exact no

/-! ## What the sides leave -/

theorem Tally.place_detail (t : Tally) (kind : Cause) (line : Nat) : (t.place kind line).detail = t.detail := by
  unfold Tally.place
  split <;> rfl

theorem runOn_enterStop (p : Part) : p.runOn (enterStop p) := Part.runOn_of_disp (by simp [enterStop])

theorem runOn_markSenderDone (p : Part) : p.runOn (markSenderDone p) := by
  unfold markSenderDone
  split
  · exact runOn_onJob (f := fun j => { j with senderSide := { j.senderSide with finished := true } })
      (fun j => ⟨rfl, fun _ => ⟨rfl, rfl⟩⟩) p
  · exact Part.runOn_refl p

theorem runOn_senderIdle (p : Part) : p.runOn (senderIdle p) :=
  Part.runOn_trans (Part.runOn_of_disp (by simp [stopTimer])) (runOn_markSenderDone _)

theorem offerStored_runsOn (j : Job) : j.runsOn false (offerStored j) := by
  unfold offerStored
  split
  case isTrue stored => exact ⟨rfl, fun kept => by simp [stored.2] at kept⟩
  case isFalse => exact Job.runsOn_refl false j

theorem runOn_scannerIdle (p : Part) : p.runOn (scannerIdle p) := by
  have done (j : Job) : j.runsOn (decide (JobSlot.scan = .relay))
      (offerStored { j with scannerSide := { j.scannerSide with finished := true } }) :=
    offerStored_runsOn { j with scannerSide := { j.scannerSide with finished := true } }
  exact Part.runOn_trans (Part.runOn_of_disp rfl) (runOn_onJob done _)

/-- The scanner as it enters RETURN, before any homing (R104). -/
def Scanner.toBack (c : Scanner) : Scanner := { c with state := .back, lamp := false, armed := false, homing := false }

/-- The ways of a RETURN at its entry (R104): at IDLE without a homing, at IDLE, or in a homing. -/
theorem enterReturn_cases (p : Part) : ∃ q : Part, q.disp = p.disp ∧ q.servo = p.servo ∧
    (enterReturn p = scannerIdle (setNotHome q) ∨ enterReturn p = scannerIdle q ∨ enterReturn p = q) := by
  by_cases faulted : (p.onScanner Scanner.toBack).homeFaulted = true
  · exact ⟨(p.onScanner Scanner.toBack).onScanner fun c => { c with position := none }, rfl, rfl, .inl (if_pos faulted)⟩
  · by_cases home : p.pins.home = true
    · by_cases known : p.scanner.position = some 0
      · exact ⟨p.onScanner Scanner.toBack, rfl, rfl,
          .inr (.inl ((if_neg faulted).trans ((if_pos home).trans (if_pos known))))⟩
      · exact ⟨(startHoming (p.onScanner Scanner.toBack)).onScanner fun c => { c with position := some 0 }, rfl, rfl,
          .inr (.inl ((if_neg faulted).trans ((if_pos home).trans (if_neg known))))⟩
    · exact ⟨startHoming (p.onScanner Scanner.toBack), rfl, rfl, .inr (.inr ((if_neg faulted).trans (if_neg home)))⟩

theorem runOn_enterReturn (p : Part) : p.runOn (enterReturn p) := by
  obtain ⟨q, disp, -, back | back | back⟩ := enterReturn_cases p <;> rw [back]
  · exact Part.runOn_trans (Part.runOn_of_disp disp) (Part.runOn_trans
      (runOn_onTally (f := fun t => { t with notHome := true }) (fun _ => rfl) q) (runOn_scannerIdle _))
  · exact Part.runOn_trans (Part.runOn_of_disp disp) (runOn_scannerIdle q)
  · exact Part.runOn_of_disp disp

theorem runOn_windDownScanner (p : Part) : p.runOn (windDownScanner p) := by
  unfold windDownScanner
  split
  · exact Part.runOn_trans (runOn_onScanner _ p) (runOn_enterReturn _)
  · exact runOn_enterReturn p
  · exact runOn_enterReturn p
  · exact Part.runOn_trans (Part.runOn_of_disp (by simp [leaveScan])) (runOn_enterReturn _)
  · exact Part.runOn_refl p
  · exact Part.runOn_refl p

theorem runOn_windDownSender (c : Cause) (p : Part) : p.runOn (windDownSender c p) := by
  have stops : p.runOn (if c = .lineLost then senderIdle p else enterStop p) :=
    runOn_choice (runOn_senderIdle p) (runOn_enterStop p)
  unfold windDownSender
  split
  · exact runOn_senderIdle p
  · exact runOn_senderIdle p
  · exact runOn_senderIdle p
  · exact stops
  · exact stops
  · exact stops
  · exact Part.runOn_refl p
  · exact Part.runOn_refl p

theorem runOn_windDown (slot : JobSlot) (c : Cause) (p : Part) : p.runOn (windDown slot c p) := by
  unfold windDown
  split
  · exact Part.runOn_refl p
  · have scanned {b : Bool} : p.runOn (if b then windDownScanner p else p) :=
      runOn_choice (runOn_windDownScanner p) (Part.runOn_refl p)
    exact runOn_choice (Part.runOn_trans scanned (runOn_windDownSender c _)) scanned

/-! ## The offer of a first cause -/

/-- The job in a slot has this first cause and this detail. -/
def Part.causedAt (p : Part) (slot : JobSlot) (spec : JobSpec) (cause : Cause) (detail : Option Detail) : Prop :=
  ∃ j, p.jobAt slot = some j ∧ j.spec = spec ∧ j.firstCause = some cause ∧ j.tally.detail = detail

theorem Part.causedAt_runOn (caused : p.causedAt slot spec cause detail) (on : p.runOn q) :
    q.causedAt slot spec cause detail := by
  obtain ⟨j, job, rfl, first, rfl⟩ := caused
  obtain ⟨k, at_k, spec_k, kept⟩ := on slot j job
  obtain ⟨first_k, detail_k⟩ := kept (.inl (by simp [first]))
  exact ⟨k, at_k, spec_k, first_k.trans first, detail_k⟩

/-- A switch to the line timer leaves what a cause records (Table 3.3-1). -/
theorem switchToTimer_recorded (j : Job) (c : Cause) (named : Named) (p : Part) :
    (switchToTimer j c p).stateFor c named = p.stateFor c named ∧
      (switchToTimer j c p).lineFor c named = p.lineFor c named := by
  unfold switchToTimer
  split <;> exact ⟨rfl, rfl⟩

/-- What is offered to a job without a first cause becomes its first cause (R36, R38). -/
theorem offer_causes {c : Cause} {named : Named} (job : p.jobAt slot = some j) (free : j.firstCause = none)
    (cause : c.isEvent = false) (detailed : c.hasDetail = true) :
    (offer slot c named p).causedAt slot j.spec c (some ⟨c.side, p.stateFor c named, p.lineFor c named⟩) := by
  obtain ⟨state, line⟩ := switchToTimer_recorded j c named p
  have first : ¬ (c.isEvent || j.firstCause.isSome) = true := by simp [cause, free]
  simp only [offer, job, if_neg first, state, line]
  refine Part.causedAt_runOn ?_ (runOn_windDown slot c _)
  have stays : (switchToTimer j c p).jobAt slot = some j :=
    (Part.jobAt_congr (by simp) slot).trans job
  refine ⟨j.setFirst c ⟨c.side, p.stateFor c named, p.lineFor c named⟩,
    (jobAt_onJob_same _ _ _).trans (by rw [stays, Option.map_some]), rfl, rfl, ?_⟩
  simp [Job.setFirst, detailed]

/-! ## The end of the event -/

theorem causedIn_of_at (caused : p.causedAt slot spec cause detail) : causedIn slot spec cause detail p := .inl caused

theorem causedIn_congr (same : q.disp = p.disp) (caused : causedIn slot spec cause detail p) :
    causedIn slot spec cause detail q := by
  simpa only [causedIn, Part.jobAt_congr same, same] using caused

/-- A job that ends takes its first cause and its detail into its slip (R41). -/
theorem causedIn_finishJob (ended : JobSlot) (caused : causedIn slot spec cause detail p) :
    causedIn slot spec cause detail (finishJob ended p) := by
  cases over_now : p.jobOver ended with
  | false => rwa [finishJob_running ended over_now]
  | true =>
    obtain ⟨j, job, finished⟩ := Part.jobOver_iff.mp over_now
    have queue : (finishJob ended p).disp.slipQueue = p.disp.slipQueue ++ [j.slip] := by
      rw [finishJob_of_over job finished]
      cases ended <;> simp [dropJob, queueSlip]
    have gone : (finishJob ended p).jobAt ended = none := by
      rw [finishJob_of_over job finished]
      cases ended <;> simp [Part.jobAt, dropJob]
    rcases caused with ⟨k, at_k, spec_k, first, detail_k⟩ | ⟨none_left, sl, queued, named⟩
    · by_cases same : slot = ended
      · subst same
        obtain rfl : j = k := Option.some.inj (job.symm.trans at_k)
        refine .inr ⟨gone, j.slip, by simp [queue], spec_k, ?_, detail_k⟩
        simp [Job.slip, Job.result, first]
      · exact .inl ⟨k, (finishJob_jobAt_of_ne same p).trans at_k, spec_k, first, detail_k⟩
    · refine .inr ⟨?_, sl, by simp [queue, queued], named⟩
      by_cases same : slot = ended
      · rw [same, gone]
      · exact (finishJob_jobAt_of_ne same p).trans none_left

theorem causedIn_finishJobs (caused : causedIn slot spec cause detail p) :
    causedIn slot spec cause detail (finishJobs p) := by
  have chosen : causedIn slot spec cause detail { p with choices := p.choices + 1 } := causedIn_congr rfl caused
  simp only [finishJobs]
  split
  · split
    · exact causedIn_finishJob _ (causedIn_finishJob _ chosen)
    · exact causedIn_finishJob _ (causedIn_finishJob _ chosen)
  · exact causedIn_finishJob _ (causedIn_finishJob _ caused)

/-- What the close of an event leaves of the dispatcher is what the end of its jobs leaves. -/
theorem closeEvent_disp (before p : Part) : (closeEvent before p).disp = (finishJobs p).disp := by
  simp [closeEvent]

theorem causedIn_closeEvent (before : Part) (caused : p.causedAt slot spec cause detail) :
    causedIn slot spec cause detail (closeEvent before p) :=
  causedIn_congr (closeEvent_disp before p) (causedIn_finishJobs (causedIn_of_at caused))

end

end Sys2Proof.Machine
end

section
/-! The demands that the sides of a job withdraw (R53), and the lock timeout (R65). -/

namespace Sys2Proof.Machine

open Sys2Proof.Claims (ends endsIn leaves answers causedIn retargeted)

section
variable {p q r : Part} {u v w : Servo}

/-! ## What a wind-down leaves of the servo -/

/-- Scanner-side and sender-side demands may be withdrawn, and the lock timer stopped; nothing else changes. -/
def Servo.withdraws (v w : Servo) : Prop :=
  ∃ scanner live running, (scanner = v.demands.scanner ∨ scanner = none) ∧ (live = v.demands.live ∨ live = none) ∧
    (running = true → v.lockRunning = true) ∧
    w = { v with demands := { v.demands with scanner := scanner, live := live }, lockRunning := running }

theorem Servo.withdraws_refl (v : Servo) : v.withdraws v := ⟨_, _, _, .inl rfl, .inl rfl, id, rfl⟩

theorem Servo.withdraws_trans (first : u.withdraws v) (second : v.withdraws w) : u.withdraws w := by
  obtain ⟨scanner, live, running, scanner_of, live_of, running_of, rfl⟩ := first
  obtain ⟨scanner', live', running', scanner_of', live_of', running_of', rfl⟩ := second
  exact ⟨scanner', live', running', scanner_of'.elim (fun h => h ▸ scanner_of) .inr,
    live_of'.elim (fun h => h ▸ live_of) .inr, running_of ∘ running_of', rfl⟩

theorem withdraws_of_servo (same : q.servo = p.servo) : p.servo.withdraws q.servo := same ▸ Servo.withdraws_refl _

theorem withdraws_choice {c : Prop} [Decidable c] (yes : u.withdraws p.servo) (no : u.withdraws q.servo) :
    u.withdraws (if c then p else q).servo := by
  split
  · exact yes
  · exact no

theorem withdraws_senderIdle (p : Part) : p.servo.withdraws (senderIdle p).servo := by
  refine ⟨_, none, _, .inl rfl, .inr rfl, id, ?_⟩
  simp [senderIdle, Part.onDemands]

theorem withdraws_scannerIdle (p : Part) : p.servo.withdraws (scannerIdle p).servo := by
  refine ⟨none, _, false, .inr rfl, .inl rfl, nofun, ?_⟩
  simp [scannerIdle]

theorem withdraws_enterReturn (p : Part) : p.servo.withdraws (enterReturn p).servo := by
  obtain ⟨q, -, servo, back | back | back⟩ := enterReturn_cases p <;> rw [back, ← servo]
  · exact Servo.withdraws_trans (withdraws_of_servo (by simp)) (withdraws_scannerIdle (setNotHome q))
  · exact withdraws_scannerIdle q
  · exact Servo.withdraws_refl _

theorem withdraws_windDownScanner (p : Part) : p.servo.withdraws (windDownScanner p).servo := by
  unfold windDownScanner
  split
  · exact withdraws_enterReturn (p.onScanner _)
  · exact withdraws_enterReturn p
  · exact withdraws_enterReturn p
  · exact Servo.withdraws_trans (withdraws_of_servo (by simp)) (withdraws_enterReturn (leaveScan p))
  · exact Servo.withdraws_refl _
  · exact Servo.withdraws_refl _

theorem withdraws_windDownSender (c : Cause) (p : Part) : p.servo.withdraws (windDownSender c p).servo := by
  have stops : p.servo.withdraws (if c = .lineLost then senderIdle p else enterStop p).servo :=
    withdraws_choice (withdraws_senderIdle p) (withdraws_of_servo (by simp))
  unfold windDownSender
  split
  · exact withdraws_senderIdle p
  · exact withdraws_senderIdle p
  · exact withdraws_senderIdle p
  · exact stops
  · exact stops
  · exact stops
  · exact Servo.withdraws_refl _
  · exact Servo.withdraws_refl _

theorem withdraws_windDown (slot : JobSlot) (c : Cause) (p : Part) : p.servo.withdraws (windDown slot c p).servo := by
  unfold windDown
  split
  · exact Servo.withdraws_refl _
  · have scanned {b : Bool} : p.servo.withdraws (if b then windDownScanner p else p).servo :=
      withdraws_choice (withdraws_windDownScanner p) (Servo.withdraws_refl _)
    exact withdraws_choice (Servo.withdraws_trans scanned (withdraws_windDownSender c _)) scanned

/-- An offer withdraws demands by its wind-down alone (R36, R39). -/
theorem withdraws_offer (slot : JobSlot) (c : Cause) (named : Named) (p : Part) :
    p.servo.withdraws (offer slot c named p).servo := by
  unfold offer
  split
  · exact Servo.withdraws_refl _
  case h_2 j _ =>
    have switched : p.servo.withdraws (switchToTimer j c p).servo := withdraws_of_servo (by simp)
    refine withdraws_choice (Servo.withdraws_trans switched (withdraws_of_servo (by simp))) ?_
    exact Servo.withdraws_trans switched (Servo.withdraws_trans (withdraws_of_servo (by simp)) (withdraws_windDown _ _ _))

/-! ## The end of jobs -/

/-- The jobs that end place the carry-over alone (R41). -/
theorem finishJob_servo (slot : JobSlot) (p : Part) : ∃ carry,
    (finishJob slot p).servo = { p.servo with demands := { p.servo.demands with carry := carry } } := by
  unfold finishJob
  split
  · exact ⟨_, rfl⟩
  · split
    case isTrue =>
      unfold placeCarry
      split
      · exact ⟨_, by simp [Part.onDemands, queueSlip, checkGate]; rfl⟩
      · exact ⟨_, by simp [queueSlip, checkGate]; rfl⟩
    case isFalse => exact ⟨_, rfl⟩

/-- The carry-over apart, the end of jobs leaves the servo (R41). -/
theorem finishJobs_servo (p : Part) : ∃ carry,
    (finishJobs p).servo = { p.servo with demands := { p.servo.demands with carry := carry } } := by
  have both (first second : JobSlot) (q : Part) : ∃ carry, (finishJob second (finishJob first q)).servo =
      { q.servo with demands := { q.servo.demands with carry := carry } } := by
    obtain ⟨_, one⟩ := finishJob_servo first q
    obtain ⟨carry, two⟩ := finishJob_servo second (finishJob first q)
    exact ⟨carry, by rw [two, one]⟩
  simp only [finishJobs]
  split
  · split
    · exact both .relay .scan _
    · exact both .scan .relay _
  · exact both .scan .relay p

/-! ## A lock timer that is not started again (R65) -/

/-- The lock timer stands, and its timeout has been offered. -/
def Servo.lockOffered (v : Servo) : Prop := v.lockRunning = false ∧ v.noLockOffered = true

theorem lockOffered_withdraws (offered : v.lockOffered) (withdraws : v.withdraws w) : w.lockOffered := by
  obtain ⟨_, _, running, -, -, running_of, rfl⟩ := withdraws
  refine ⟨Bool.eq_false_iff.mpr fun h => ?_, offered.2⟩
  have := running_of h
  simp [offered.1] at this

theorem timedServo_of_offered (offered : p.servo.lockOffered) : p.timedServo = p.servo := by
  have untimed : ¬ (p.servo.drum = .locked ∧ p.timesLock = true) := by simp [Part.timesLock, offered.2]
  rw [Part.timedServo, if_neg untimed, if_neg untimed]

theorem retargeted_lockOffered (cfg : Settings) (speed : Nat) (offered : v.lockOffered) :
    (retargeted cfg speed v).lockOffered := by
  simp only [retargeted]
  split <;> exact offered

theorem takeTarget_lockOffered (offered : p.servo.lockOffered) (speed : Nat) :
    (takeTarget speed p).servo.lockOffered := by
  by_cases stopped : p.servo.drum = .stopped
  · rw [takeTarget_stopped speed stopped]
    exact offered
  · rw [takeTarget_turning speed stopped, timedServo_of_offered offered]
    exact retargeted_lockOffered _ _ offered

theorem dropTarget_lockOffered (offered : p.servo.lockOffered) : (dropTarget p).servo.lockOffered := by
  rw [dropTarget_eq]
  split
  · exact offered
  · rw [enterSpindown_eq]
    exact ⟨rfl, offered.2⟩

theorem settleDemand_lockOffered (awaits : Bool) (before : Part) (offered : p.servo.lockOffered) :
    (settleDemand awaits before p).servo.lockOffered := by
  have tidied (q : Part) (h : q.servo.lockOffered) : (tidyServo q).servo.lockOffered := by
    rw [tidyServo_servo]
    exact ⟨by simp [h.1], h.2⟩
  have found : p.found.servo.lockOffered := offered
  refine tidied _ ?_
  split
  · exact offered
  · simp only [actOnDemand]
    split
    · exact offered
    · split
      · exact takeTarget_lockOffered found _
      · exact dropTarget_lockOffered found

theorem closeEvent_servo (before p : Part) :
    (closeEvent before p).servo = (settleDemand (finishJobs p).awaitsDispatch before (finishJobs p)).servo := by
  simp [closeEvent]

theorem closeEvent_lockOffered (before : Part) (offered : p.servo.lockOffered) :
    (closeEvent before p).servo.lockOffered := by
  rw [closeEvent_servo]
  refine settleDemand_lockOffered _ _ ?_
  obtain ⟨_, servo⟩ := finishJobs_servo p
  rw [servo]
  exact offered

/-! ## The lock timeout -/

/-- A servo that differs in counts and in a lock timer that stands leaves the part settled. -/
theorem Part.settled_of_servo (settled : p.settled = true) (opened : q.isOpen = p.isOpen)
    (work : q.disp.work = p.disp.work) (drum : q.servo.drum = p.servo.drum)
    (demands : q.servo.demands = p.servo.demands) (mark : q.servo.speedFaultMark = p.servo.speedFaultMark)
    (unsettled : q.servo.unsettled = p.servo.unsettled)
    (lock : q.servo.drum = .locked → q.servo.lockRunning = false) : q.settled = true := by
  obtain ⟨jobs, -, marked, alone, left⟩ := Part.settled_iff.mp settled
  have fetch : q.disp.fetch = p.disp.fetch := congrArg Prod.fst work
  have pendingJob : q.disp.pendingJob = p.disp.pendingJob := congrArg (fun w => w.2.1) work
  refine Part.settled_iff.mpr ⟨fun slot => (jobOver_of_work work slot).trans (jobs slot), lock, ?_, ?_, ?_⟩
  · rwa [Part.drumHasJob, jobDemands_of_work work, demands, mark]
  · rwa [Dispatcher.fetchesAlone, fetch, pendingJob]
  · rwa [unsettled, demands, awaitsDispatch_of_work opened drum work]

theorem answers_of_ready {s : State} {c : Instr} {ready : Part → Bool} {f : Part → Part} {post : State → Prop}
    (run : exec c s = .next (s.onPart fun p => if ready p then closeEvent p (f p) else p))
    (met : ready s.part = true) (result : post { s with part := closeEvent s.part (f s.part) }) : answers c s post := by
  refine ⟨_, run, ?_⟩
  have acts : (if ready s.part then closeEvent s.part (f s.part) else s.part) = closeEvent s.part (f s.part) :=
    if_pos met
  rwa [State.onPart, acts]

/-- What is offered to a STORE that has its first cause joins its events (R37). -/
theorem offer_late_store {c : Cause} {j : Job} {named : Named} (job : p.disp.scanJob = some j)
    (late : j.firstCause ≠ none) (store : j.spec.kind = .store) :
    offer .scan c named p = p.onTally .scan fun t => t.place c (p.lineFor c named) := by
  have stays : switchToTimer j c p = p := by simp [switchToTimer, store]
  have event : (c.isEvent || j.firstCause.isSome) = true := by
    simp [Option.isSome_iff_ne_none.mpr late]
  simp only [offer, Part.jobAt, job, stays, event, if_true, placeEvent]

/-- Settles O45: the timer stops and NO_LOCK is offered to the job of the scanner. -/
theorem lockTimeoutOffersNoLock : Obligations.LockTimeoutOffersNoLock := by
  intro s settled running counted p v
  have due : s.part.lockDue = true := by simp [Part.lockDue, running, counted]
  have stopped : ({ s.part with servo := v } : Part).settled = true :=
    Part.settled_of_servo settled rfl rfl rfl rfl rfl rfl fun _ => rfl
  have placed (f : Tally → Tally) : (({ s.part with servo := v } : Part).onTally .scan f).settled = true :=
    (Part.settled_of_work (by simp) (by simp) (onTally_work _ _ _)).trans stopped
  refine ⟨fun idle => ?_, fun j job => ⟨fun free => ?_, fun late store => ?_⟩⟩
  · have unheard : takeLockTimeout s.part = { s.part with servo := v } := by
      simp only [takeLockTimeout, offer, Part.jobAt, Part.onServo, show s.part.disp.scanJob = none from idle]
      rfl
    refine leaves_of_ready rfl due ?_
    rw [unheard]
    exact closeEvent_ends stopped rfl
  · have offered : (takeLockTimeout s.part).servo.lockOffered :=
      lockOffered_withdraws (v := v) ⟨rfl, rfl⟩ (withdraws_offer .scan .noLock .scanner { s.part with servo := v })
    have caused := offer_causes (slot := .scan) (named := .scanner) (c := .noLock)
      (p := { s.part with servo := v }) job free rfl rfl
    obtain ⟨stands, marked⟩ := closeEvent_lockOffered s.part offered
    exact answers_of_ready rfl due ⟨stands, marked, causedIn_closeEvent s.part caused⟩
  · have heard : takeLockTimeout s.part =
        ({ s.part with servo := v } : Part).onTally .scan fun t => t.place .noLock s.part.scanner.line :=
      offer_late_store (p := { s.part with servo := v }) (c := .noLock) job late store
    refine leaves_of_ready rfl due ?_
    rw [heard]
    exact closeEvent_ends (placed _) (by simp [v, p])

end

end Sys2Proof.Machine
end

section
/-! The aborts (R43, R44). -/

namespace Sys2Proof.Machine

open Sys2Proof.Claims (ends endsIn leaves takes answers causedIn writable hostPort echoed driven lastFound upFrom checked
  toCancel)

section
variable {p q r : Part} {slot : JobSlot} {j : Job} {s : State}

/-! ## The dispatcher at the end of jobs -/

/-- The dispatcher after the job in a slot has ended with its slip (R41), at which the gate is checked (R33). -/
def Dispatcher.ended (slot : JobSlot) (sl : Slip) (d : Dispatcher) : Dispatcher :=
  let e : Dispatcher := { d with slipQueue := d.slipQueue ++ [sl], pendingJob := checked d.pendingJob }
  match slot with
  | .scan => { e with scanJob := none }
  | .relay => { e with relayJob := none }

theorem finishJob_disp (job : p.jobAt slot = some j) (finished : j.over = true) :
    (finishJob slot p).disp = p.disp.ended slot j.slip := by
  rw [finishJob_of_over job finished, (placeCarry_frame _ _).2.2.1]
  cases slot <;> rfl

/-- From `d` to `e` jobs may have ended: then the pending record has been checked. -/
structure Dispatcher.goesOn (p q : Part) : Prop where
  running : q.runningJobs ≤ p.runningJobs
  pending : q.disp.pendingJob = if q.runningJobs < p.runningJobs then checked p.disp.pendingJob else p.disp.pendingJob
  cancelCount : q.disp.cancelCount = p.disp.cancelCount
  lastCode : q.disp.lastCode = p.disp.lastCode
  lastResult : q.disp.lastResult = p.disp.lastResult

namespace Dispatcher.goesOn

theorem of_disp (same : q.disp = p.disp) : goesOn p q := by
  have running : q.runningJobs = p.runningJobs := by simp only [Part.runningJobs, same]
  exact ⟨Nat.le_of_eq running, by rw [if_neg (by omega), same], by rw [same], by rw [same], by rw [same]⟩

theorem checked_twice (r : Option PendingJob) : checked (checked r) = checked r := by
  cases r <;> rfl

theorem trans (first : goesOn p q) (second : goesOn q r) : goesOn p r := by
  refine ⟨Nat.le_trans second.running first.running, ?_, second.cancelCount.trans first.cancelCount,
    second.lastCode.trans first.lastCode, second.lastResult.trans first.lastResult⟩
  have fewer := first.running
  have fewest := second.running
  rw [second.pending, first.pending]
  by_cases ended : q.runningJobs < p.runningJobs
  · rw [if_pos ended, checked_twice, ite_self, if_pos (by omega)]
  · by_cases ends : r.runningJobs < q.runningJobs
    · rw [if_neg ended, if_pos ends, if_pos (by omega)]
    · rw [if_neg ended, if_neg ends, if_neg (by omega)]

theorem finishJob (slot : JobSlot) (p : Part) : goesOn p (finishJob slot p) := by
  cases over_now : p.jobOver slot with
  | false => rw [finishJob_running slot over_now]; exact of_disp rfl
  | true =>
    obtain ⟨j, job, finished⟩ := Part.jobOver_iff.mp over_now
    have disp := finishJob_disp job finished
    have fewer : (Machine.finishJob slot p).runningJobs < p.runningJobs := by
      cases slot
      all_goals
        simp only [Part.jobAt] at job
        simp [Part.runningJobs, disp, Dispatcher.ended, job]
    refine ⟨Nat.le_of_lt fewer, ?_, ?_, ?_, ?_⟩
    · rw [if_pos fewer, disp]
      cases slot <;> rfl
    all_goals
      rw [disp]
      cases slot <;> rfl

theorem finishJobs (p : Part) : goesOn p (finishJobs p) := by
  simp only [Machine.finishJobs]
  split
  · split
    · exact trans (of_disp (q := { p with choices := p.choices + 1 }) rfl) (trans (finishJob .relay _) (finishJob .scan _))
    · exact trans (of_disp (q := { p with choices := p.choices + 1 }) rfl) (trans (finishJob .scan _) (finishJob .relay _))
  · exact trans (finishJob .scan _) (finishJob .relay _)

theorem closeEvent (before p : Part) : goesOn p (closeEvent before p) :=
  trans (finishJobs p) (of_disp (closeEvent_disp before p))

end Dispatcher.goesOn

/-! ## An abort -/

theorem abortJob_none (idle : p.jobAt slot = none) (named : Named) : abortJob slot named p = p := by
  simp only [abortJob, idle]

theorem abortJob_free (job : p.jobAt slot = some j) (free : j.firstCause = none) (named : Named) :
    abortJob slot named p = offer slot .aborted named p := by
  simp [abortJob, job, free]

theorem abortJob_late {c : Cause} (job : p.jobAt slot = some j) (late : j.firstCause = some c) (named : Named) :
    abortJob slot named p = p.onTally slot fun t => t.place .abortLate (p.lineFor .abortLate named) := by
  have offered : abortJob slot named p = offer slot .abortLate named p := by simp [abortJob, job, late]
  exact offered.trans (offer_placed rfl fun _ _ => rfl)

/-- An abort of the job of the scanner leaves a RELAY its record and its first cause. -/
theorem abortScan_relay (named : Named) (job : p.disp.relayJob = some j) :
    ∃ k, (abortJob .scan named p).disp.relayJob = some k ∧ k.spec = j.spec ∧ k.firstCause = j.firstCause := by
  have kept {q : Part} (on : p.runOn q) : ∃ k, q.disp.relayJob = some k ∧ k.spec = j.spec ∧ k.firstCause = j.firstCause := by
    obtain ⟨k, at_k, spec, fixed⟩ := on .relay j job
    exact ⟨k, at_k, spec, (fixed (.inr rfl)).1⟩
  cases scan : p.jobAt .scan with
  | none => rw [abortJob_none scan]; exact ⟨j, job, rfl, rfl⟩
  | some i =>
    cases first : i.firstCause with
    | some c =>
      rw [abortJob_late scan first]
      exact kept (runOn_onTally (fun t => t.place_detail _ _) p)
    | none =>
      have stays : switchToTimer i .aborted p = p := by simp [switchToTimer, Cause.isDrumFault]
      rw [abortJob_free scan first]
      simp only [offer, scan, stays, first]
      obtain ⟨k, at_k, spec, fixed⟩ := runOn_windDown .scan .aborted (p.onJob .scan fun j =>
        j.setFirst .aborted ⟨Cause.aborted.side, p.stateFor .aborted named, p.lineFor .aborted named⟩) .relay j job
      exact ⟨k, at_k, spec, (fixed (.inr rfl)).1⟩

/-- An abort of the RELAY leaves the job of the scanner its first cause and its detail. -/
theorem abortRelay_causedAt {spec : JobSpec} {cause : Cause} {detail : Option Detail} (named : Named)
    (caused : p.causedAt .scan spec cause detail) : (abortJob .relay named p).causedAt .scan spec cause detail := by
  cases relay : p.jobAt .relay with
  | none => rwa [abortJob_none relay]
  | some i =>
    cases first : i.firstCause with
    | some c =>
      rw [abortJob_late relay first]
      exact Part.causedAt_runOn caused (runOn_onTally (fun t => t.place_detail _ _) p)
    | none =>
      have stays : switchToTimer i .aborted p = p := by simp [switchToTimer, Cause.isDrumFault]
      rw [abortJob_free relay first]
      simp only [offer, relay, stays, first]
      obtain ⟨k, at_k, named_k⟩ := caused
      exact Part.causedAt_runOn (p := p.onJob .relay _) ⟨k, at_k, named_k⟩ (runOn_windDown _ _ _)

theorem causedAt_abortJob (job : p.jobAt slot = some j) (free : j.firstCause = none) (named : Named) :
    (abortJob slot named p).causedAt slot j.spec .aborted (some ⟨3, p.stateFor .aborted named, p.lineFor .aborted named⟩) := by
  rw [abortJob_free job free]
  exact offer_causes job free rfl rfl

/-! ## ABORT_ALL -/

/-- The part with every running job aborted (R44). -/
def Part.abortedAll (p : Part) : Part := abortJob .relay .sender (abortJob .scan .scanner p)

theorem abortedAll_standing (p : Part) : p.abortedAll.standing = p.standing := by simp [Part.abortedAll]

theorem Dispatcher.rest_of_outline {d e : Dispatcher} (same : e.outline = d.outline) :
    e = { d with scanJob := e.scanJob, relayJob := e.relayJob } := by
  have main := congrArg Prod.fst same
  simp only [Dispatcher.outline, Dispatcher.mk.injEq] at main
  cases e
  simp_all

/-- The part at the echo of an ABORT_ALL that acts. -/
def Part.allAborted (p : Part) : Part :=
  echoCommand 4 .done (p.abortedAll.onDisp fun d =>
    { d with pendingJob := toCancel p,
             cancelCount := (upFrom p.settings.jobSize p.disp.jobConsumer p.disp.jobProducer).toNat })

theorem allAborted_jobAt (p : Part) (slot : JobSlot) : p.allAborted.jobAt slot = p.abortedAll.jobAt slot := by
  cases slot <;> rfl

theorem allAborted_running (p : Part) : p.allAborted.runningJobs = p.runningJobs := by
  have same : p.allAborted.runningJobs = p.abortedAll.runningJobs := rfl
  obtain ⟨-, -, -, scan, relay⟩ := Dispatcher.outline_inj (Part.disp_of_standing (abortedAll_standing p))
  rw [same]
  simp only [Part.runningJobs, scan, relay]

theorem allAborted_disp (p : Part) : p.allAborted.disp.pendingJob = toCancel p ∧
    p.allAborted.disp.cancelCount = (upFrom p.settings.jobSize p.disp.jobConsumer p.disp.jobProducer).toNat ∧
    p.allAborted.disp.lastCode = 4 ∧ p.allAborted.disp.lastResult = .done := ⟨rfl, rfl, rfl, rfl⟩

theorem takeCommand_abortAll (opened : p.isOpen = true) (acts : p.nothingToAbort = false) :
    takeCommand 4 p = p.allAborted := by
  have taken : openCommand 4 p = (.done, p.abortedAll.onDisp fun d =>
      { d with pendingJob := d.pendingJob.map p.markCancel,
               cancelCount := ringDist p.settings.jobSize d.jobConsumer d.jobProducer }) := by
    change takeAbortAll p = _
    simp only [takeAbortAll, acts]
    rfl
  have disp := Dispatcher.rest_of_outline (Part.disp_of_standing (abortedAll_standing p))
  rw [takeCommand_open opened, taken, Part.allAborted, ← ringDist_eq_upFrom _ _ (jobSize_pos _), Int.toNat_natCast]
  simp only [Part.onDisp]
  rw [disp]
  rfl

theorem nothingToAbort_iff : p.nothingToAbort = true ↔ (p.disp.scanJob = none ∧ p.disp.relayJob = none) ∧
    p.disp.pendingJob = none ∧ p.disp.fetch = none ∧ p.disp.jobProducer = p.disp.jobConsumer := by
  simp [Part.nothingToAbort, Part.runs, Part.jobAt, and_assoc]

/-- A record marked to cancel starts no scanner, so that no dispatch is due (R33). -/
theorem awaitsDispatch_of_cancelled (records : ∀ r, p.disp.pendingJob = some r → r.toCancel = true) :
    p.awaitsDispatch = false := by
  unfold Part.awaitsDispatch
  cases record : p.disp.pendingJob with
  | none => simp
  | some r => simp [PendingJob.startsScanner, PendingJob.idleRecord, records r record]

theorem toCancel_cancelled {r : PendingJob} (marked : toCancel p = some r) : r.toCancel = true := by
  simp only [toCancel, Option.map_eq_some_iff] at marked
  obtain ⟨_, -, rfl⟩ := marked
  rfl

/-- An ABORT_ALL leaves no job of which it has not become the first cause, or that had none before. -/
theorem abortedAll_causes (job : p.jobAt slot = some j) (free : j.firstCause = none) :
    ∃ detail, p.abortedAll.causedAt slot j.spec .aborted (some detail) := by
  cases slot with
  | scan => exact ⟨_, abortRelay_causedAt .sender (causedAt_abortJob job free .scanner)⟩
  | relay =>
    obtain ⟨k, at_k, spec, first⟩ := abortScan_relay .scanner job
    exact ⟨_, spec ▸ causedAt_abortJob (slot := .relay) at_k (first.trans free) .sender⟩

/-- Settles O32: the jobs, the pending slot and the ring. -/
theorem abortAllReachesJobsPendingAndRing : Obligations.AbortAllReachesJobsPendingAndRing := by
  intro s w opened p d idle entries
  have settled := w.1.2
  have placed := isOpen_placed opened
  refine ⟨fun stopped pendingJob fetch ring => ?_, fun some_work => ?_⟩
  · have nothing : s.part.hosted.nothingToAbort = true := nothingToAbort_iff.mpr ⟨stopped, pendingJob, fetch, ring⟩
    refine takes_of_command w placed rfl (by decide) ?_
    have taken : openCommand 4 s.part.hosted = (.nothing, s.part.hosted) := if_pos nothing
    rw [takeCommand_open (p := s.part.hosted) opened, taken]
    exact closeEvent_of_work settled rfl rfl rfl
  have acts : s.part.hosted.nothingToAbort = false :=
    Bool.eq_false_iff.mpr fun nothing => some_work (nothingToAbort_iff.mp nothing)
  have taken := takeCommand_abortAll (p := s.part.hosted) opened acts
  refine ⟨fun stopped => ?_, ?_⟩
  · refine takes_of_command w placed rfl (by decide) ?_
    have unmoved : s.part.hosted.abortedAll = s.part.hosted := by
      rw [Part.abortedAll, abortJob_none (p := s.part.hosted) (slot := .scan) stopped.1,
        abortJob_none (p := s.part.hosted) (slot := .relay) stopped.2]
    rw [taken, Part.allAborted, unmoved]
    rw [closeEvent_acts (fun slot => ?_) (awaitsDispatch_of_cancelled fun r => toCancel_cancelled) fun mark => ?_]
    · exact congrArg (ends s.part) (driven_raise _ _ .command)
    · cases slot
      · exact (Part.jobOver_eq _ _).trans (by simp [Part.jobAt, echoCommand, show s.part.disp.scanJob = none from stopped.1])
      · exact (Part.jobOver_eq _ _).trans (by simp [Part.jobAt, echoCommand, show s.part.disp.relayJob = none from stopped.2])
    · exact (Part.settled_iff.mp settled).2.2.1 mark
  · refine answers_of_command w opened rfl (by decide) fun t part => ?_
    rw [taken] at part
    have on := Dispatcher.goesOn.closeEvent s.part s.part.hosted.allAborted
    obtain ⟨pendingJob, cancelCount, lastCode, lastResult⟩ := allAborted_disp s.part.hosted
    rw [← part] at on
    refine ⟨?_, on.cancelCount.trans cancelCount, on.lastCode.trans lastCode, on.lastResult.trans lastResult,
      fun slot j job free => ?_⟩
    · have pending := on.pending
      rw [allAborted_running, pendingJob] at pending
      exact pending
    · obtain ⟨detail, k, at_k, named⟩ := abortedAll_causes (p := s.part.hosted) job free
      rw [part]
      exact ⟨detail, causedIn_closeEvent s.part ⟨k, (allAborted_jobAt _ _).trans at_k, named⟩⟩

end

end Sys2Proof.Machine
end

section
/-! The wind-down of the sides as the statements have it (R39, R103, R104, R127, R134), and the end of a RELAY (R41,
R138). -/

namespace Sys2Proof.Machine

open Sys2Proof.Claims (ends endsIn leaves checked withdrawn released toStop returning idleSender stoppedTimer relaySends)

section
variable {p q before : Part} {slot : JobSlot} {j : Job} {c : Cause} {named : Named}

/-! ## The sides -/

theorem withdraw_eq (p : Part) (who : Requester) : p.withdraw who = { p with path := withdrawn who p.path } := by
  have same : (match p.path.port with
      | .part t => if t.who = who then { p.path with port := .part { t with withdrawn := true } } else p.path
      | _ => p.path) = withdrawn who p.path := by
    unfold withdrawn
    cases p.path.port <;> rfl
  exact congrArg (fun path => { p with path }) same

/-- A line in hand is released (R127, R132). -/
theorem releaseHand_eq (p : Part) : releaseHand p = released p := by
  unfold releaseHand released
  cases hand : p.sender.hand with
  | none => rfl
  | some h =>
    simp only [withdraw_eq]
    cases h.kind <;> cases h.ring <;> rfl

theorem enterStop_eq (p : Part) : enterStop p = toStop p := by
  rw [enterStop, releaseHand_eq]
  rfl

/-- With HOME inactive a scanner told to wind down enters RETURN in a homing (R104). -/
theorem windDownScanner_returning (away : p.pins.home = false) (unfaulted : p.homeFaulted = false) :
    windDownScanner p = returning p := by
  have homes (q : Part) (pins : q.pins = p.pins) (disp : q.disp = p.disp) :
      enterReturn q = startHoming (q.onScanner Scanner.toBack) := by
    have unfound : ¬ (q.onScanner Scanner.toBack).homeFaulted = true := by
      have same : (q.onScanner Scanner.toBack).homeFaulted = p.homeFaulted := by
        simp only [Part.homeFaulted, Part.onScanner_disp, disp]
      simp [same, unfaulted]
    exact (if_neg unfound).trans (if_neg (by simp [pins, away]))
  cases state : p.scanner.state with
  | homing =>
    simp only [windDownScanner, returning, state]
    exact homes _ rfl rfl
  | warmup | waitLock =>
    simp only [windDownScanner, returning, state]
    exact homes p rfl rfl
  | scan =>
    simp only [windDownScanner, returning, state]
    refine (homes (leaveScan p) (by simp) (by simp)).trans ?_
    rw [leaveScan, withdraw_eq]
    rfl
  | back | idle => simp only [windDownScanner, returning, state]

/-! ## The wind-down of a job -/

/-- A first cause that moves no sender to the line timer winds the job down (R36). -/
theorem offer_winds (job : p.jobAt slot = some j) (free : j.firstCause = none) (cause : c.isEvent = false)
    (stays : switchToTimer j c p = p) : offer slot c named p =
      windDown slot c (p.onJob slot fun j => j.setFirst c ⟨c.side, p.stateFor c named, p.lineFor c named⟩) := by
  simp [offer, job, free, cause, stays]

theorem windDown_scanner (job : p.jobAt slot = some j) (scans : j.scannerSide.works = true)
    (sends : j.senderSide.works = false) : windDown slot c p = windDownScanner p := by
  simp [windDown, job, scans, sends]

theorem windDown_sender (job : p.jobAt slot = some j) (scans : j.scannerSide.works = false)
    (sends : j.senderSide.works = true) : windDown slot c p = windDownSender c p := by
  simp [windDown, job, scans, sends]

theorem windDown_both (job : p.jobAt slot = some j) (scans : j.scannerSide.works = true)
    (sends : j.senderSide.works = true) : windDown slot c p = windDownSender c (windDownScanner p) := by
  simp [windDown, job, scans, sends]

/-! ## The end of a RELAY -/

/-- The part with this RELAY in its slot. -/
def Part.withRelay (p : Part) (j : Job) : Part := { p with disp := { p.disp with relayJob := some j } }

theorem onJob_relay (job : p.disp.relayJob = some j) (f : Job → Job) : p.onJob .relay f = p.withRelay (f j) := by
  simp only [Part.onJob, Part.onDisp, job, Option.map_some]
  rfl

/-- The sender of a RELAY reaches IDLE (R127, R138). -/
def Part.relayIdle (p : Part) (j : Job) : Part :=
  let r := Claims.released p
  { r with sender := idleSender r.sender, timer := stoppedTimer p.timer,
           disp := { p.disp with relayJob := some { j with senderSide := { j.senderSide with finished := true } } } }

theorem released_frame (p : Part) : (released p).disp = p.disp ∧ (released p).timer = p.timer ∧
    (released p).servo = p.servo ∧ (released p).isOpen = p.isOpen := by
  rw [← releaseHand_eq]
  simp

theorem senderIdle_relay (job : p.disp.relayJob = some j) (live : p.servo.demands.live = none) :
    senderIdle p = p.relayIdle j := by
  obtain ⟨disp, timer, servo, -⟩ := released_frame p
  have undemanded : ((released p).servo.demands.live) = none := by rw [servo, live]
  have kept : ({ (released p).servo with demands := { (released p).servo.demands with live := none } } : Servo) =
      (released p).servo := by
    conv => rhs; rw [show (released p).servo = { (released p).servo with demands :=
      { (released p).servo.demands with live := (released p).servo.demands.live } } from rfl, undemanded]
  simp only [senderIdle, markSenderDone, releaseHand_eq, Part.onDemands, stopTimer, Part.onSender, Part.onServo,
    Part.onTimer, Part.senderSlot, disp, job, kept, Part.onJob, Part.onDisp, Option.map_some, Part.relayIdle, timer]
  rfl

/-- The slip of a RELAY that ends takes the place of the RELAY (R33). -/
theorem slipLoad_relay_ended (sl : Slip) :
    ({ q with disp := q.disp.ended .relay sl } : Part).slipLoad = (q.withRelay j).slipLoad := by
  cases scan : q.disp.scanJob <;> simp [Part.slipLoad, Part.runningJobs, Dispatcher.ended, Part.withRelay, scan]

/-- A dispatch that is due stays due when the RELAY ends: its slip takes its place (R33). -/
theorem awaits_relay_ended (sl : Slip) (opened : q.isOpen = p.isOpen)
    (drum : q.servo.drum = p.servo.drum) (work : (q.withRelay j).disp.work = p.disp.work)
    (due : p.awaitsDispatch = true) :
    ({ q with disp := q.disp.ended .relay sl } : Part).awaitsDispatch = true := by
  have same : (q.withRelay j).awaitsDispatch = true := (awaitsDispatch_of_work (q := q.withRelay j) opened drum work).trans due
  simp only [Part.awaitsDispatch, Bool.and_eq_true] at same ⊢
  obtain ⟨drives, dispatches⟩ := same
  refine ⟨drives, ?_⟩
  cases record : q.disp.pendingJob with
  | none => simp [Part.withRelay, record] at dispatches
  | some r =>
    simp only [Part.withRelay, record, Bool.and_eq_true] at dispatches
    obtain ⟨starts, passes⟩ := dispatches
    have after : (q.disp.ended .relay sl).pendingJob = some { r with held := false } := by
      simp [Dispatcher.ended, checked, record]
    simp only [after, Bool.and_eq_true]
    refine ⟨starts, ?_⟩
    have starting : r.toCancel = false ∧ r.badField.isSome = false ∧
        (r.spec.kind = .live ∨ r.spec.kind = .store) := by
      simpa [PendingJob.startsScanner, PendingJob.idleRecord, and_assoc] using starts
    obtain ⟨uncancelled, good, scans⟩ := starting
    simp only [Part.gatePasses, Bool.and_eq_true, uncancelled, good, Bool.false_and, Bool.false_or,
      Part.roomForSlip_eq, decide_eq_true_eq] at passes ⊢
    obtain ⟨⟨opened, room⟩, free⟩ := passes
    refine ⟨⟨opened, Nat.lt_of_le_of_lt (Nat.le_of_eq ?_) room⟩, ?_⟩
    · have load := slipLoad_relay_ended (q := q) (j := j) sl
      simp only [Part.withRelay, record] at load
      exact load
    · rcases scans with live | store
      · rw [live] at free
        simp [Part.resourcesFree] at free
      · rw [store] at free ⊢
        exact free

/-- The event at which a RELAY ends (R41): its slip is queued, and the demand in force stands. -/
theorem closeEvent_relay {k : Job} (settled : before.settled = true)
    (opened : q.isOpen = before.isOpen) (servo : q.servo = before.servo)
    (work : (q.withRelay j).disp.work = before.disp.work) (ended : q.disp.relayJob = some k) (finished : k.over = true)
    (unheld : k.spec.holdSpin = false) :
    closeEvent before q = ends before { q with disp := q.disp.ended .relay k.slip } := by
  obtain ⟨jobs, lock, marked, alone, left⟩ := Part.settled_iff.mp settled
  have scan_runs : q.jobOver .scan = false := by
    have := (jobOver_of_work (q := q.withRelay j) work .scan).trans (jobs .scan)
    exact this
  have dropped : finishJobs q = { q with disp := q.disp.ended .relay k.slip } := by
    have carries (r : Part) : placeCarry k r = r := if_neg (by simp [unheld])
    rw [finishJobs, if_neg (by simp [scan_runs]), finishJob_running .scan scan_runs,
      finishJob_of_over (slot := .relay) ended finished, carries]
    rfl
  have running : ∀ slot, ({ q with disp := q.disp.ended .relay k.slip } : Part).jobOver slot = false := by
    intro slot
    cases slot with
    | scan => exact scan_runs
    | relay => rfl
  have again : closeEvent before q = closeEvent before { q with disp := q.disp.ended .relay k.slip } := by
    rw [closeEvent, closeEvent, dropped, finishJobs_of_running running]
  have fetch : q.disp.fetch = before.disp.fetch := congrArg Prod.fst work
  have pendingJob : q.disp.pendingJob = before.disp.pendingJob := congrArg (fun w => w.2.1) work
  rw [again]
  refine closeEvent_ends (Part.settled_iff.mpr ⟨running, by rwa [← servo] at lock, ?_, ?_, ?_⟩) (by rw [servo])
  · have hasJob : ({ q with disp := q.disp.ended .relay k.slip } : Part).drumHasJob = before.drumHasJob := by
      have := jobDemands_of_work (q := q.withRelay j) work before.servo.demands
      rw [← servo] at this
      rw [Part.drumHasJob, Part.drumHasJob, ← servo]
      exact this
    rw [hasJob]
    rwa [← servo] at marked
  · simpa [Dispatcher.fetchesAlone, Dispatcher.ended, checked, fetch, pendingJob] using alone
  · intro was unsettled
    have before_left := left was (by rw [← servo]; exact unsettled)
    refine ⟨awaits_relay_ended _ opened (by rw [servo]) work before_left.1, ?_⟩
    rw [← servo] at before_left
    exact before_left.2

/-- A sender at IDLE stays as it is when it reaches IDLE again. -/
theorem relayIdle_again (p : Part) (j : Job) :
    (p.relayIdle j).relayIdle { j with senderSide := { j.senderSide with finished := true } } = p.relayIdle j := by
  have empty : (p.relayIdle j).sender.hand = none := by
    cases hand : p.sender.hand with
    | none =>
      have kept : Claims.released p = p := by rw [← releaseHand_eq]; simp only [releaseHand, hand]
      simp only [Part.relayIdle, kept]
      exact hand
    | some h =>
      simp only [Part.relayIdle, Claims.released, hand]
      cases h.kind <;> cases h.ring <;> rfl
  have kept : Claims.released (p.relayIdle j) = p.relayIdle j := by
    rw [← releaseHand_eq]
    simp only [releaseHand, empty]
  conv => lhs; rw [Part.relayIdle, kept]
  rfl

theorem released_withRelay (p : Part) (k : Job) :
    Claims.released (p.withRelay k) = (Claims.released p).withRelay k := by
  unfold Claims.released
  cases hand : p.sender.hand with
  | none => simp only [Part.withRelay, hand]
  | some h =>
    simp only [Part.withRelay, hand]
    cases h.kind <;> cases h.ring <;> rfl

/-- The part after its sender has reached IDLE and its RELAY has ended with this slip (R41, R138). -/
def Part.relayEnded (p : Part) (sl : Slip) : Part :=
  let r := Claims.released p
  { r with sender := idleSender r.sender, timer := stoppedTimer p.timer, disp := p.disp.ended .relay sl }

/-- The RELAY with this first cause, as the sender's state and line stand (R36, R38). -/
def Part.relayCaused (p : Part) (j : Job) (c : Cause) : Job :=
  j.setFirst c ⟨c.side, p.stateFor c .sender, p.lineFor c .sender⟩

theorem toStop_withRelay (p : Part) (k : Job) : toStop (p.withRelay k) = (toStop p).withRelay k := by
  simp only [toStop, released_withRelay]
  rfl

/-! `u` is the part at the event of which `before` is the part at its beginning. -/

section relay
variable {u : Part} (sends : relaySends u j)
include sends

/-- A first cause winds down the sender of the RELAY (R36, R39). -/
theorem offer_relay (cause : c.isEvent = false) : offerSender c u =
    windDownSender c (u.withRelay (u.relayCaused j c)) := by
  obtain ⟨job, kind, -, scans, works, free, -⟩ := sends
  have stays : switchToTimer j c u = u := by simp [switchToTimer, kind]
  simp only [offerSender, Part.senderSlot, job]
  rw [offer_winds (slot := .relay) job free cause stays, onJob_relay job]
  exact windDown_sender (slot := .relay) rfl (by simp [Side.works, Job.setFirst, scans])
    (by simp [Side.works, Job.setFirst, works])

/-- The event at which the sender of a RELAY reaches IDLE ends the RELAY (R41, R138). -/
theorem closeEvent_relayIdle {k : Job} (settled : before.settled = true) (opened : u.isOpen = before.isOpen)
    (servo : u.servo = before.servo) (work : u.disp.work = before.disp.work) (sides : k.sides = j.sides) :
    closeEvent before ((u.withRelay k).relayIdle k) = ends before (u.relayEnded ⟨k.spec, k.result, k.tally⟩) := by
  obtain ⟨job, -, unheld, scans, works, -, -⟩ := sends
  obtain ⟨spec, scanning, sending⟩ : k.spec = j.spec ∧ k.scannerSide = j.scannerSide ∧ k.senderSide = j.senderSide := by
    simpa [Job.sides] using sides
  obtain ⟨-, -, servo_u, opened_u⟩ := released_frame (u.withRelay k)
  have done : ({ k with senderSide := { k.senderSide with finished := true } } : Job).over = true := by
    simp [Job.over, Side.over, scanning, scans]
  refine (closeEvent_relay (j := j) (q := (u.withRelay k).relayIdle k) settled (opened_u.trans opened)
    (servo_u.trans servo) ?_ rfl done (by simp [spec, unheld])).trans ?_
  · rw [← work]
    simp [Part.withRelay, Part.relayIdle, Dispatcher.work, job]
  · simp only [Part.relayIdle, released_withRelay]
    rfl

end relay

end

end Sys2Proof.Machine
end

section
/-! The three timeouts of a RELAY's sender (R122, R135, R137). -/

namespace Sys2Proof.Machine

open Sys2Proof.Claims (ends leaves released idleSender stoppedTimer relaySends)

section
variable {s : State} {j : Job} {c : Cause} {p u before : Part}

/-! ## A cause that brings the sender to IDLE -/

theorem windDownSender_idle (waits : p.sender.state = .calling ∨ p.sender.state = .standby ∨
    p.sender.state = .awaitReceipt) : windDownSender c p = senderIdle p := by
  rcases waits with state | state | state <;> simp only [windDownSender, state]

theorem windDownSender_lost (works : p.sender.state ≠ .idle) (sends : p.sender.state ≠ .stop) :
    windDownSender .lineLost p = senderIdle p := by
  cases state : p.sender.state <;> simp_all [windDownSender]

theorem windDownSender_stop (sends : p.sender.state = .start ∨ p.sender.state = .phasing ∨ p.sender.state = .image)
    (held : c ≠ .lineLost) : windDownSender c p = enterStop p := by
  rcases sends with state | state | state <;> simp only [windDownSender, state, if_neg held]

section
variable (sends : relaySends u j) (cause : c.isEvent = false)
  (winds : ∀ k, windDownSender c (u.withRelay k) = senderIdle (u.withRelay k))
include sends cause winds

theorem offer_relay_idle : offerSender c u = (u.withRelay (u.relayCaused j c)).relayIdle (u.relayCaused j c) := by
  rw [offer_relay sends cause, winds]
  exact senderIdle_relay rfl sends.2.2.2.2.2.2

/-- A sender at IDLE by the offer is at IDLE already. -/
theorem senderIdle_offer_relay : senderIdle (offerSender c u) = offerSender c u := by
  rw [offer_relay_idle sends cause winds]
  obtain ⟨-, -, servo, -⟩ := released_frame (u.withRelay (u.relayCaused j c))
  refine (senderIdle_relay (p := (u.withRelay (u.relayCaused j c)).relayIdle (u.relayCaused j c)) rfl ?_).trans
    (relayIdle_again _ _)
  exact (congrArg (fun v : Servo => v.demands.live) servo).trans sends.2.2.2.2.2.2

/-- The event of such a cause ends the RELAY with it (R41). -/
theorem closeEvent_offer_relay (settled : before.settled = true) (opened : u.isOpen = before.isOpen)
    (servo : u.servo = before.servo) (work : u.disp.work = before.disp.work) :
    closeEvent before (offerSender c u) = ends before (u.relayEnded ⟨j.spec, c, (u.relayCaused j c).tally⟩) := by
  have sides : (u.relayCaused j c).sides = j.sides := rfl
  rw [offer_relay_idle sends cause winds, closeEvent_relayIdle sends settled opened servo work sides]
  rfl

end

/-- The part whose sender has offered a loss of the line (R137, log 28). -/
def Part.lossTold (p : Part) : Part := p.onSender fun d => { d with lossOffered := true }

theorem released_lossTold (p : Part) : released p.lossTold = (released p).lossTold := by
  unfold released
  cases hand : p.sender.hand with
  | none => simp only [Part.lossTold, Part.onSender, hand]
  | some h =>
    simp only [Part.lossTold, Part.onSender, hand]
    cases h.kind <;> cases h.ring <;> rfl

/-- Settles O47: the three timeouts of a RELAY, by the cause that each offers. -/
theorem senderTimeoutsEndARelay : Obligations.SenderTimeoutsEndARelay := by
  intro s j settled sends p d ended
  refine ⟨fun calling counted => ?_, fun awaits counted => ?_, fun works unstopped lost unoffered => ?_⟩
  · have due : s.part.readyDue = true :=
      Bool.and_eq_true_iff.mpr ⟨decide_eq_true calling, decide_eq_true counted⟩
    have winds (k : Job) := windDownSender_idle (c := .noAnswer) (p := s.part.withRelay k) (.inl calling)
    have state : s.part.stateFor .noAnswer .sender = 1 := congrArg SenderState.code calling
    refine leaves_of_ready rfl due ?_
    rw [senderIdle_offer_relay sends rfl winds, closeEvent_offer_relay sends rfl winds settled rfl rfl rfl,
      Part.relayCaused, state]
    rfl
  · have due : s.part.receiptDue = true :=
      Bool.and_eq_true_iff.mpr ⟨decide_eq_true awaits, decide_eq_true counted⟩
    have winds (k : Job) := windDownSender_idle (c := .sentUnconfirmed) (p := s.part.withRelay k) (.inr (.inr awaits))
    refine leaves_of_ready rfl due ?_
    rw [senderIdle_offer_relay sends rfl winds, closeEvent_offer_relay sends rfl winds settled rfl rfl rfl]
    rfl
  · have due : s.part.lossDue = true :=
      Bool.and_eq_true_iff.mpr ⟨Bool.and_eq_true_iff.mpr ⟨decide_eq_true works, decide_eq_true lost⟩,
        (Bool.not_eq_true' _).mpr unoffered⟩
    have winds (k : Job) := windDownSender_lost (p := s.part.lossTold.withRelay k) works unstopped
    have event := closeEvent_offer_relay (u := s.part.lossTold) sends rfl winds settled rfl rfl rfl
    refine leaves_of_ready (f := fun p => offerSender .lineLost p.lossTold) rfl due (event.trans ?_)
    simp only [Part.relayEnded, released_lossTold]
    rfl

end

end Sys2Proof.Machine
end

section
/-! The tone detector and the far-end events of a RELAY (R122, R135, R136, R140 to R146). -/

namespace Sys2Proof.Machine

open Sys2Proof.Claims (ends leaves endsIn released idleSender stoppedTimer relaySends toStop)

section
variable {s : State} {j : Job} {c : Cause} {p u before : Part}

/-! ## Cycles and runs -/

theorem bandOf_eq (p : Part) (cycle : Nat) : p.bandOf cycle =
    if p.derived.readyBand.low ≤ cycle ∧ cycle ≤ p.derived.readyBand.high then some .ready
    else if p.derived.haltBand.low ≤ cycle ∧ cycle ≤ p.derived.haltBand.high then some .halt
    else if p.derived.receiptBand.low ≤ cycle ∧ cycle ≤ p.derived.receiptBand.high then some .receipt else none := by
  simp only [Part.bandOf, Band.holds_iff]

/-- Cycles in a row in a band (R143). -/
def Detector.runAfter (d : Detector) (band : Option Tone) : Nat :=
  if band = none then 0 else if d.runTone = band then min 255 (d.runCount + 1) else 1

theorem changeRun_eq (band : Option Tone) (d : Detector) :
    changeRun band d = { d with runTone := band, runCount := d.runAfter band } := by
  cases band with
  | none => rfl
  | some t =>
    by_cases same : d.runTone = some t
    · simp only [changeRun, Detector.runAfter, if_pos same, if_neg (Option.some_ne_none t)]
      rw [← same]
      rfl
    · simp only [changeRun, Detector.runAfter, if_neg same, if_neg (Option.some_ne_none t)]

theorem judgeHeard_eq (tone : Tone) (band : Option Tone) (d : Detector) : judgeHeard tone band d =
    if band = some tone then { d with loss := 0 }
    else if d.loss + 1 < 4 then { d with loss := d.loss + 1 } else { d with loss := 4, state := .tracking } := by
  unfold judgeHeard
  by_cases few : d.loss + 1 < 4
  · rw [if_neg (Nat.not_le.mpr few), if_pos few]
  · rw [if_pos (Nat.not_lt.mp few), if_neg few]

/-- The part with the detector's run after a cycle of this band. -/
def Part.counted (p : Part) (band : Option Tone) : Part :=
  p.onDetector fun d => { d with runTone := band, runCount := d.runAfter band }

theorem judgeCycle_heard {tone : Tone} (heard : p.detector.state = .heard tone) (cycle : Nat) : judgeCycle cycle p =
    (p.counted (p.bandOf cycle)).onDetector (judgeHeard tone (p.bandOf cycle)) := by
  simp only [judgeCycle, heard, funext (changeRun_eq (p.bandOf cycle))]
  rfl

theorem judgeCycle_runs {cycle : Nat} {band : Option Tone} (tracking : p.detector.state = .tracking)
    (of_band : p.bandOf cycle = band) (short : band = none ∨ p.detector.runAfter band < p.settings.persistence) :
    judgeCycle cycle p = p.counted band := by
  have counted : p.onDetector (changeRun band) = p.counted band := by rw [funext (changeRun_eq band)]; rfl
  simp only [judgeCycle, tracking, of_band, counted]
  cases band with
  | none => rfl
  | some tone => exact if_neg (Nat.not_le.mpr (short.resolve_left (Option.some_ne_none tone)))

theorem judgeCycle_hears {cycle : Nat} {tone : Tone} (tracking : p.detector.state = .tracking)
    (of_band : p.bandOf cycle = some tone) (long : p.settings.persistence ≤ p.detector.runAfter (some tone)) :
    judgeCycle cycle p =
      farEndEvent tone ((p.counted (some tone)).onDetector fun d => { d with state := .heard tone, loss := 0 }) := by
  have counted : p.onDetector (changeRun (some tone)) = p.counted (some tone) := by
    rw [funext (changeRun_eq (some tone))]; rfl
  simp only [judgeCycle, tracking, of_band, counted]
  exact if_pos long

/-! ## What a tone brings about at the sender of a RELAY -/

/-- The RELAY with the tone in its set (R146). -/
def Job.hears (j : Job) (tone : Tone) : Job := { j with tally := { j.tally with tones := j.tally.tones.add tone } }

theorem offerSender_event (slot : u.senderSlot = some .relay) (job : u.disp.relayJob = some j)
    (event : c.isEvent = true) (fault : c.isDrumFault = false) :
    offerSender c u = u.withRelay { j with tally := j.tally.place c (u.lineFor c .sender) } := by
  have placed : offer .relay c .sender u = u.onTally .relay fun t => t.place c (u.lineFor c .sender) :=
    offer_placed fault fun _ _ => by simp [event]
  simp only [offerSender, slot, placed]
  exact onJob_relay job _

theorem hears_sends {tone : Tone} (sends : relaySends u j) : relaySends (u.withRelay (j.hears tone)) (j.hears tone) := by
  obtain ⟨-, rest⟩ := sends
  exact ⟨rfl, rest⟩

/-- The part with the tone shown in status byte 30 (R146). -/
def Part.shows (p : Part) (tone : Tone) : Part := p.onStatus fun t => { t with lastTone := some tone }

theorem farEndEvent_none (slot : p.senderSlot = none) (tone : Tone) : farEndEvent tone p = p.shows tone := by
  have unsent : (p.shows tone).senderSlot = none := slot
  change (match (p.shows tone).senderSlot with | none => p.shows tone | some slot => _) = p.shows tone
  rw [unsent]

/-- What the tone heard makes the sender do (R136). -/
def senderTone : Tone → Part → Part
  | .ready => senderReady
  | .halt => senderHalt
  | .receipt => senderReceipt

theorem farEndEvent_relay (job : p.disp.relayJob = some j) (tone : Tone) :
    farEndEvent tone p = senderTone tone ((p.shows tone).withRelay (j.hears tone)) := by
  have sent : (p.shows tone).senderSlot = some .relay := by
    simp only [Part.shows, Part.senderSlot, Part.onStatus_disp, job]
  have added : (p.shows tone).onTally .relay (fun t => { t with tones := t.tones.add tone }) =
      (p.shows tone).withRelay (j.hears tone) := onJob_relay (p := p.shows tone) job _
  have told : farEndEvent tone p =
      senderTone tone ((p.shows tone).onTally .relay fun t => { t with tones := t.tones.add tone }) := by
    simp only [farEndEvent]
    rw [show (p.onStatus fun t => { t with lastTone := some tone }) = p.shows tone from rfl, sent]
    cases tone <;> rfl
  rw [told, added]

theorem ToneSet.add_eq (t : ToneSet) (tone : Tone) : t.add tone =
    ⟨t.ready || decide (tone = .ready), t.halt || decide (tone = .halt), t.receipt || decide (tone = .receipt)⟩ := by
  cases tone <;> simp [ToneSet.add]

/-- The tally with the detail of a far end's cause (R38). -/
def Part.farDetail (heard : Part) (tally : Tally) : Tally :=
  { tally with detail := some ⟨4, heard.sender.state.code, heard.sender.line⟩ }

/-- The part after the sender of a RELAY has acted on a tone heard (R122, R135, R136). -/
def Part.farEnd (heard : Part) (j : Job) (tally : Tally) (tone : Tone) : Part :=
  let u := heard.sender
  let r := Claims.released heard
  let goesOn : Part → Sender → Option Cause → Tally → Part := fun q u' cause tally' =>
    { q with sender := u',
             disp := { heard.disp with relayJob := some { j with firstCause := cause, tally := tally' } } }
  let detail := heard.farDetail tally
  match tone, u.state with
  | .ready, .calling => goesOn heard { u with state := .standby, timeout := 0 } none tally
  | .ready, _ => goesOn heard u none (tally.place .readyUnexpected u.line)
  | .receipt, .awaitReceipt => heard.relayEnded ⟨j.spec, .delivered, tally⟩
  | .receipt, _ => goesOn heard u none (tally.place .receiptUnexpected u.line)
  | .halt, .awaitReceipt => heard.relayEnded ⟨j.spec, .rejected, detail⟩
  | .halt, .calling | .halt, .standby => heard.relayEnded ⟨j.spec, .halted, detail⟩
  | .halt, .start | .halt, .phasing | .halt, .image =>
    goesOn r { r.sender with state := .stop, increment := heard.derived.blackIncrement, stopCount := 0,
                             callMark := false, fifo := [] } (some .halted) detail
  | .halt, .stop | .halt, .idle => goesOn heard u none (tally.place .haltLate u.line)

section farEnd
variable {heard : Part} (sends : relaySends heard j) (settled : before.settled = true)
  (opened : heard.isOpen = before.isOpen) (servo : heard.servo = before.servo) (disp : heard.disp = before.disp)
  (tally : Tally)
include sends

/-- The RELAY that stands in the part has heard a tone. -/
theorem relay_work (disp : heard.disp = before.disp) (k : Job) (sides : k.sides = j.sides) :
    (heard.withRelay k).disp.work = before.disp.work := by
  rw [← disp]
  simp [Part.withRelay, Dispatcher.work, sends.1, sides]

theorem withTally_sends : relaySends (heard.withRelay { j with tally := tally }) { j with tally := tally } := ⟨rfl, sends.2⟩

include settled opened servo disp

/-- A tone that only joins the events, or moves the sender on, leaves the RELAY running. -/
theorem closeEvent_goesOn (u : Sender) (k : Job) (sides : k.sides = j.sides) :
    closeEvent before { heard.withRelay k with sender := u } = ends before { heard.withRelay k with sender := u } :=
  closeEvent_of_work settled opened servo (relay_work sends disp k sides)

theorem closeEvent_farEvent {c : Cause} (event : c.isEvent = true) (fault : c.isDrumFault = false)
    (line : (heard.withRelay { j with tally := tally }).lineFor c .sender = heard.sender.line) :
    closeEvent before (offerSender c (heard.withRelay { j with tally := tally })) =
      ends before (heard.withRelay { j with tally := tally.place c heard.sender.line }) := by
  rw [offerSender_event (j := { j with tally := tally }) rfl rfl event fault, line]
  exact closeEvent_goesOn sends settled opened servo disp heard.sender { j with tally := tally.place c heard.sender.line } rfl

theorem closeEvent_farEnded {c : Cause} (cause : c.isEvent = false)
    (waits : heard.sender.state = .calling ∨ heard.sender.state = .standby ∨ heard.sender.state = .awaitReceipt) :
    closeEvent before (offerSender c (heard.withRelay { j with tally := tally })) = ends before (heard.relayEnded
      ⟨j.spec, c, ((heard.withRelay { j with tally := tally }).relayCaused { j with tally := tally } c).tally⟩) := by
  have winds (k : Job) := windDownSender_idle (c := c) (p := (heard.withRelay { j with tally := tally }).withRelay k) waits
  rw [closeEvent_offer_relay (withTally_sends sends tally) cause winds settled opened servo
    (relay_work sends disp { j with tally := tally } rfl)]
  simp only [Part.relayEnded, released_withRelay]
  rfl

/-- HALT stops a sending (R136). -/
theorem closeEvent_farStopped
    (sending : heard.sender.state = .start ∨ heard.sender.state = .phasing ∨ heard.sender.state = .image) :
    closeEvent before (offerSender .halted (heard.withRelay { j with tally := tally })) =
      ends before ((toStop heard).withRelay
        ((heard.withRelay { j with tally := tally }).relayCaused { j with tally := tally } .halted)) := by
  have caused := offer_relay (c := .halted) (withTally_sends sends tally) rfl
  have stops (k : Job) := windDownSender_stop (c := .halted)
    (p := (heard.withRelay { j with tally := tally }).withRelay k) sending (by decide)
  obtain ⟨disp_of, -, servo_of, opened_of⟩ := released_frame heard
  rw [caused, stops, enterStop_eq, toStop_withRelay, toStop_withRelay]
  exact closeEvent_of_work settled (opened_of.trans opened) (servo_of.trans servo)
    (relay_work (heard := toStop heard) ⟨(congrArg Dispatcher.relayJob disp_of).trans sends.1, sends.2.1, sends.2.2.1,
      sends.2.2.2.1, sends.2.2.2.2.1, sends.2.2.2.2.2.1,
      (congrArg (fun v : Servo => v.demands.live) servo_of).trans sends.2.2.2.2.2.2⟩ (disp_of.trans disp) _ rfl)

theorem closeEvent_senderTone (tone : Tone) :
    closeEvent before (senderTone tone (heard.withRelay { j with tally := tally })) =
      ends before (heard.farEnd j tally tone) := by
  have free : j = { j with firstCause := none } := by rw [← sends.2.2.2.2.2.1]
  have listed {c : Cause} (event : c.isEvent = true) (fault : c.isDrumFault = false)
      (line : (heard.withRelay { j with tally := tally }).lineFor c .sender = heard.sender.line) :
      closeEvent before (offerSender c (heard.withRelay { j with tally := tally })) =
        ends before (heard.withRelay { j with firstCause := none, tally := tally.place c heard.sender.line }) := by
    rw [closeEvent_farEvent sends settled opened servo disp tally event fault line]
    conv => lhs; rw [free]
  have idle {c : Cause} (waits : heard.sender.state = .awaitReceipt) (k : Job) :=
    windDownSender_idle (c := c) (p := (heard.withRelay { j with tally := tally }).withRelay k) (.inr (.inr waits))
  cases tone with
  | ready =>
    simp only [senderTone, senderReady, Part.farEnd]
    cases state : heard.sender.state with
    | calling =>
      rw [if_pos (by exact state)]
      refine (closeEvent_goesOn sends settled opened servo disp { heard.sender with state := .standby, timeout := 0 }
        { j with tally := tally } rfl).trans ?_
      conv => lhs; rw [free]
      rfl
    | idle | standby | start | phasing | image | stop | awaitReceipt =>
      rw [if_neg (by simp [Part.withRelay, state])]
      exact listed rfl rfl rfl
  | halt =>
    have stopped (k : Job) : (toStop heard).withRelay k =
        { toStop heard with disp := { heard.disp with relayJob := some k } } := by
      simp only [Part.withRelay, toStop, (released_frame heard).1]
    simp only [senderTone, senderHalt, Part.farEnd]
    cases state : heard.sender.state with
    | calling =>
      rw [show (heard.withRelay { j with tally := tally }).sender.state = .calling from state]
      exact closeEvent_farEnded (c := .halted) sends settled opened servo disp tally rfl (.inl state)
    | standby =>
      rw [show (heard.withRelay { j with tally := tally }).sender.state = .standby from state]
      exact closeEvent_farEnded (c := .halted) sends settled opened servo disp tally rfl (.inr (.inl state))
    | start =>
      rw [show (heard.withRelay { j with tally := tally }).sender.state = .start from state]
      exact (closeEvent_farStopped sends settled opened servo disp tally (.inl state)).trans (congrArg _ (stopped _))
    | phasing =>
      rw [show (heard.withRelay { j with tally := tally }).sender.state = .phasing from state]
      exact (closeEvent_farStopped sends settled opened servo disp tally (.inr (.inl state))).trans
        (congrArg _ (stopped _))
    | image =>
      rw [show (heard.withRelay { j with tally := tally }).sender.state = .image from state]
      exact (closeEvent_farStopped sends settled opened servo disp tally (.inr (.inr state))).trans
        (congrArg _ (stopped _))
    | awaitReceipt =>
      rw [show (heard.withRelay { j with tally := tally }).sender.state = .awaitReceipt from state]
      rw [senderIdle_offer_relay (withTally_sends sends tally) rfl (idle state)]
      exact closeEvent_farEnded (c := .rejected) sends settled opened servo disp tally rfl (.inr (.inr state))
    | stop =>
      rw [show (heard.withRelay { j with tally := tally }).sender.state = .stop from state]
      exact listed rfl rfl rfl
    | idle =>
      rw [show (heard.withRelay { j with tally := tally }).sender.state = .idle from state]
      exact listed rfl rfl rfl
  | receipt =>
    simp only [senderTone, senderReceipt, Part.farEnd]
    cases state : heard.sender.state with
    | awaitReceipt =>
      rw [if_pos (by exact state), senderIdle_offer_relay (withTally_sends sends tally) rfl (idle state)]
      exact closeEvent_farEnded sends settled opened servo disp tally rfl (.inr (.inr state))
    | idle | calling | standby | start | phasing | image | stop =>
      rw [if_neg (by simp [Part.withRelay, state])]
      exact listed rfl rfl rfl

end farEnd

/-- Settles O58: edges and cycles by the detector's state, and the tone heard by the sender's state. -/
theorem detectorTracksCycles : Obligations.DetectorTracksCycles := by
  intro s micro settled released placed p d cmd q silent
  have run : exec cmd s = .next (s.onPart fun p => if p.resetActive then p else
      closeEvent p (if p.placed then takeEdge micro (p.onClock fun t => { t with micro := micro })
        else p.onClock fun t => { t with micro := micro })) := rfl
  have acts {r x : Part} (edge : takeEdge micro (s.part.onClock fun t => { t with micro := micro }) = r)
      (event : closeEvent s.part r = ends s.part x) : leaves cmd s x := by
    refine endsIn_of_run run ((if_neg (by simp [released])).trans ?_)
    rw [if_pos placed, edge, event]
  have still {x : Part} (edge : takeEdge micro (s.part.onClock fun t => { t with micro := micro }) = x)
      (opened : x.isOpen = s.part.isOpen) (servo : x.servo = s.part.servo) (disp : x.disp = s.part.disp) :
      leaves cmd s x := acts edge (closeEvent_of_work settled opened servo (by rw [disp]))
  refine ⟨fun first => ?_, fun begun => ?_, fun last begun other small => ?_⟩
  · refine still ?_ rfl rfl rfl
    simp only [takeEdge, Part.onClock_detector, show s.part.detector.previous = none from first]
    rfl
  · exact endsIn_of_run rfl (if_pos (Option.isSome_iff_ne_none.mpr begun))
  · intro cycle within band n e
    have of_band (x : Detector) : (q x).bandOf cycle = band := bandOf_eq _ _
    have judged : takeEdge micro (s.part.onClock fun t => { t with micro := micro }) =
        judgeCycle cycle (q { d with previous := some micro, quiet := 0 }) := by
      simp only [takeEdge, Part.onClock_detector, show s.part.detector.previous = some last from begun]
      exact (if_neg other).trans (if_neg (Nat.not_lt.mpr small))
    have counted : (q { d with previous := some micro, quiet := 0 }).counted band = q e := rfl
    refine ⟨fun tracking short => ?_, fun tone heard => ?_, fun tone tracking toned long => ?_⟩
    · exact still (judged.trans (judgeCycle_runs tracking (of_band _) short)) rfl rfl rfl
    · have judges := judgeCycle_heard (p := q { d with previous := some micro, quiet := 0 }) heard cycle
      rw [of_band, counted, funext (judgeHeard_eq tone band)] at judges
      exact still (judged.trans judges) rfl rfl rfl
    · have hears := judgeCycle_hears (p := q { d with previous := some micro, quiet := 0 }) tracking
        ((of_band _).trans toned) (by rw [← toned]; exact long)
      rw [← toned, counted] at hears
      intro heard
      have far : takeEdge micro (s.part.onClock fun t => { t with micro := micro }) =
          farEndEvent tone ((q e).onDetector fun d => { d with state := .heard tone, loss := 0 }) := judged.trans hears
      refine ⟨fun unsent => still (far.trans (farEndEvent_none (p := (q e).onDetector _) unsent tone)) rfl rfl rfl, fun j sends => ?_⟩
      intro u tally r g detail ended
      have told := far.trans (farEndEvent_relay (p := (q e).onDetector _) (j := j) sends.1 tone)
      have same : j.hears tone = { j with tally := tally } := by rw [Job.hears, ToneSet.add_eq]
      rw [same] at told
      exact acts told (closeEvent_senderTone (heard := heard) (before := s.part) sends settled rfl rfl rfl tally tone)

end

end Sys2Proof.Machine
end

section
/-! ABORT_SEND and ABORT_SCAN (R43). -/

namespace Sys2Proof.Machine

open Sys2Proof.Claims (ends leaves takes answers causedIn writable hostPort echoed checked returning toStop)

section
variable {s : State} {j : Job} {c : Cause} {p q u before : Part} {slot : JobSlot}

/-! ## The part at the echo of an abort -/

theorem takeCommand_abortSend (opened : p.isOpen = true) : takeCommand 2 p =
    echoCommand 2 (takeAbortSend p).1 (takeAbortSend p).2 := takeCommand_open opened 2

theorem takeCommand_abortScan (opened : p.isOpen = true) : takeCommand 3 p =
    echoCommand 3 (takeAbortScan p).1 (takeAbortScan p).2 := takeCommand_open opened 3

theorem takeAbortSend_of_slot (slot_of : p.senderSlot = some slot) :
    takeAbortSend p = (.done, abortJob slot .sender p) := by
  simp only [takeAbortSend, slot_of]

theorem takeAbortScan_of_job (job : p.disp.scanJob = some j) :
    takeAbortScan p = (.done, abortJob .scan .scanner p) := by
  simp [takeAbortScan, Part.runs, Part.jobAt, job]

theorem echo_jobAt (code : Byte) (result : CommandResult) (p : Part) (slot : JobSlot) :
    (echoCommand code result p).jobAt slot = p.jobAt slot := by
  cases slot <;> rfl

/-- The part with this job in the scanner's slot. -/
def Part.withScan (p : Part) (j : Job) : Part := { p with disp := { p.disp with scanJob := some j } }

theorem onJob_scan (job : p.disp.scanJob = some j) (f : Job → Job) : p.onJob .scan f = p.withScan (f j) := by
  simp only [Part.onJob, Part.onDisp, job, Option.map_some]
  rfl

theorem returning_withScan (p : Part) (j : Job) : returning (p.withScan j) = (returning p).withScan j := by
  cases state : p.scanner.state <;> simp only [returning, Part.withScan, state]

theorem released_withScan (p : Part) (k : Job) :
    Claims.released (p.withScan k) = (Claims.released p).withScan k := by
  unfold Claims.released
  cases hand : p.sender.hand with
  | none => simp only [Part.withScan, hand]
  | some h =>
    simp only [Part.withScan, hand]
    cases h.kind <;> cases h.ring <;> rfl

theorem toStop_withScan (p : Part) (k : Job) : toStop (p.withScan k) = (toStop p).withScan k := by
  simp only [toStop, released_withScan]
  rfl

/-- The job with ABORTED as its first cause (R43). -/
def Job.aborted (j : Job) (state line : Nat) : Job :=
  { j with firstCause := some .aborted, tally := { j.tally with detail := some ⟨3, state, line⟩ } }

/-- An abort of the job of the scanner winds it down (R36, R43). -/
theorem abortScan_winds {named : Named} (job : p.disp.scanJob = some j) (free : j.firstCause = none) :
    abortJob .scan named p = windDown .scan .aborted
      (p.withScan (j.aborted (p.stateFor .aborted named) (p.lineFor .aborted named))) := by
  have stays : switchToTimer j .aborted p = p := by simp [switchToTimer, Cause.isDrumFault]
  rw [abortJob_free (slot := .scan) job free, offer_winds (slot := .scan) job free rfl stays, onJob_scan job]
  rfl

theorem returning_frame (p : Part) : (returning p).servo = p.servo ∧ (returning p).disp = p.disp ∧
    (returning p).isOpen = p.isOpen ∧ (returning p).sender = p.sender := by
  cases state : p.scanner.state <;> simp [returning, state, Part.isOpen]

theorem toStop_frame (p : Part) : (toStop p).servo = p.servo ∧ (toStop p).disp = p.disp ∧
    (toStop p).isOpen = p.isOpen := by
  rw [← enterStop_eq]
  simp

/-! ## A RETURN that HOME ends at once -/

/-- The scanner at home after a wind-down: a known home position stands, and no homing has counted (R86, R104). -/
def Scanner.homed (c : Scanner) : Scanner :=
  { c with lamp := false, position := some 0,
           homeCount := if c.position = some 0 then c.homeCount else 0,
           stepTicks := if c.position = some 0 then c.stepTicks else 0 }

theorem enterReturn_homed (home : p.pins.home = true) (unfaulted : p.homeFaulted = false) :
    enterReturn p = scannerIdle (p.onScanner Scanner.homed) := by
  have unfound : ¬ (p.onScanner Scanner.toBack).homeFaulted = true := by
    rw [show (p.onScanner Scanner.toBack).homeFaulted = p.homeFaulted from rfl, unfaulted]
    decide
  have entered : enterReturn p = if p.scanner.position = some 0 then scannerIdle (p.onScanner Scanner.toBack)
      else returnFound (startHoming (p.onScanner Scanner.toBack)) := (if_neg unfound).trans (if_pos home)
  rw [entered]
  by_cases known : p.scanner.position = some 0
  · rw [if_pos known]
    simp only [scannerIdle, Part.onScanner, Scanner.toBack, Scanner.homed, known, if_true]
  · rw [if_neg known]
    simp only [returnFound, startHoming, scannerIdle, Part.onScanner, Scanner.toBack, Scanner.homed, if_neg known]

/-! ## The close of an event while the host holds the port -/

theorem settleDemand_scanner (awaits : Bool) (before : Part) (disarmed : p.scanner.armed = false) :
    (settleDemand awaits before p).scanner = p.scanner := by
  have kept : ({ p.scanner with armed := false } : Scanner) = p.scanner := by rw [← disarmed]
  have same : p.disarmed = p.scanner := by rw [Part.disarmed, kept, ite_self]
  have taken (speed : Nat) : (takeTarget speed p.found).scanner = p.scanner := by
    by_cases stopped : p.servo.drum = .stopped
    · rw [takeTarget_stopped (p := p.found) speed stopped]
      rfl
    · rw [takeTarget_turning (p := p.found) speed stopped]
      exact same
  have dropped : (dropTarget p.found).scanner = p.scanner := by
    rw [dropTarget_eq]
    split
    · rfl
    · rw [enterSpindown_eq]
      exact same
  have tidied (q : Part) : (tidyServo q).scanner = q.scanner := by
    simp only [tidyServo]
    split <;> split <;> rfl
  rw [settleDemand, tidied]
  split
  · rfl
  · simp only [actOnDemand]
    split
    · rfl
    · split
      · exact taken _
      · exact dropped

/-- While the port is taken and the scanner is not armed, the close of an event leaves memory path and scanner. -/
theorem closeEvent_taken (before : Part) (taken : p.path.port ≠ .idle) (disarmed : p.scanner.armed = false) :
    (closeEvent before p).path = p.path ∧ (closeEvent before p).scanner = p.scanner := by
  have port : (markChanges before (settleDemand (finishJobs p).awaitsDispatch before (finishJobs p))).path.port ≠ .idle := by
    simpa using taken
  rw [closeEvent, grantIdle_of_taken port]
  have scanner := settleDemand_scanner (p := finishJobs p) (finishJobs p).awaitsDispatch before (by simpa using disarmed)
  exact ⟨by simp, by simp [scanner]⟩

/-- Nothing that the servo does places or withdraws a demand. -/
theorem closeEvent_demands (before p : Part) : ∃ carry,
    (closeEvent before p).servo.demands = { p.servo.demands with carry := carry } := by
  obtain ⟨carry, servo⟩ := finishJobs_servo p
  refine ⟨carry, ?_⟩
  have settled : (settleDemand (finishJobs p).awaitsDispatch before (finishJobs p)).servo.demands =
      (finishJobs p).servo.demands := by
    rw [settleDemand, tidyServo_servo]
    split
    · rfl
    · exact (actOnDemand_mark_demands _ _).2
  rw [closeEvent_servo, settled, servo]

/-- With HOME active a scanner told to wind down is at IDLE at once (R86, R104). -/
theorem windDownScanner_homed (home : p.pins.home = true) (unfaulted : p.homeFaulted = false)
    (works : p.scanner.state ≠ .back) (runs : p.scanner.state ≠ .idle) :
    ∃ x : Part, windDownScanner p = scannerIdle x ∧ x.path = (returning p).path ∧ x.disp = p.disp ∧
      (scannerIdle x).scanner =
        { (returning p).scanner with
          state := .idle, homing := false, reverse := false, position := some 0,
          homeCount := if (returning p).scanner.position = some 0 then p.scanner.homeCount else 0,
          stepTicks := if (returning p).scanner.position = some 0 then p.scanner.stepTicks else 0 } := by
  cases state : p.scanner.state with
  | back => exact absurd state works
  | idle => exact absurd state runs
  | homing =>
    simp only [windDownScanner, returning, state]
    exact ⟨_, enterReturn_homed (p := p.onScanner _) home unfaulted, rfl, rfl, rfl⟩
  | warmup | waitLock =>
    simp only [windDownScanner, returning, state]
    exact ⟨_, enterReturn_homed home unfaulted, rfl, rfl, rfl⟩
  | scan =>
    have leaves_disp : (leaveScan p).homeFaulted = false := by simpa [Part.homeFaulted] using unfaulted
    simp only [windDownScanner, returning, state]
    refine ⟨_, enterReturn_homed (p := leaveScan p) (by simpa using home) leaves_disp, ?_, ?_, rfl⟩
    · rw [leaveScan, withdraw_eq]
      rfl
    · simp

theorem finishJobs_scan_disp (job : p.disp.scanJob = some j) (finished : j.over = true)
    (running : p.jobOver .relay = false) : (finishJobs p).disp = p.disp.ended .scan j.slip := by
  have relay : (finishJob .scan p).jobOver .relay = false := by
    rw [Part.jobOver, finishJob_jobAt_of_ne (by decide)]
    exact running
  rw [finishJobs, if_neg (by simp [running]), finishJob_running .relay relay, finishJob_disp (slot := .scan) job finished]

/-! ## The aborts -/

theorem withScan_work {k : Job} (job : p.disp.scanJob = some j) (sides : k.sides = j.sides) :
    (p.withScan k).disp.work = p.disp.work := by
  simp [Part.withScan, Dispatcher.work, job, sides]

theorem aborted_unfaulted (p : Part) (state line : Nat) : (p.withScan (j.aborted state line)).homeFaulted = false := by
  simp [Part.homeFaulted, Part.withScan, Job.aborted]

/-- A STORE that is aborted away from HOME returns (R104). -/
theorem abortScan_alone {named : Named} (job : p.disp.scanJob = some j) (free : j.firstCause = none)
    (scans : j.scannerSide = ⟨true, false⟩) (unsent : j.senderSide.active = false) (away : p.pins.home = false) :
    abortJob .scan named p =
      (returning p).withScan (j.aborted (p.stateFor .aborted named) (p.lineFor .aborted named)) := by
  rw [abortScan_winds job free, windDown_scanner (slot := .scan) rfl (by simp [Job.aborted, Side.works, scans])
    (by simp [Job.aborted, Side.works, unsent]), windDownScanner_returning (p := p.withScan _) away
      (aborted_unfaulted p _ _), returning_withScan]

/-- A LIVE that is aborted away from HOME returns and stops sending (R104, R134). -/
theorem abortScan_both {named : Named} (job : p.disp.scanJob = some j) (free : j.firstCause = none)
    (scans : j.scannerSide = ⟨true, false⟩) (sends : j.senderSide = ⟨true, false⟩) (away : p.pins.home = false)
    (works : p.sender.state = .start ∨ p.sender.state = .phasing ∨ p.sender.state = .image ∨ p.sender.state = .stop) :
    abortJob .scan named p = (if p.sender.state = .stop then returning p else toStop (returning p)).withScan
      (j.aborted (p.stateFor .aborted named) (p.lineFor .aborted named)) := by
  rw [abortScan_winds job free, windDown_both (slot := .scan) rfl (by simp [Job.aborted, Side.works, scans])
    (by simp [Job.aborted, Side.works, sends]), windDownScanner_returning (p := p.withScan _) away
      (aborted_unfaulted p _ _), returning_withScan]
  have sender := (returning_frame (p := p)).2.2.2
  by_cases stops : p.sender.state = .stop
  · rw [if_pos stops]
    simp only [windDownSender, Part.withScan, sender, stops]
  · rw [if_neg stops, ← toStop_withScan, ← enterStop_eq]
    refine windDownSender_stop ?_ (by decide)
    simp only [Part.withScan, sender]
    rcases works with state | state | state | state
    · exact .inl state
    · exact .inr (.inl state)
    · exact .inr (.inr state)
    · exact absurd state stops

/-- The side of the scanner has finished. -/
def Job.returned (j : Job) : Job := { j with scannerSide := { j.scannerSide with finished := true } }

theorem scannerIdle_disp {c : Cause} (job : p.disp.scanJob = some j) (caused : j.firstCause = some c) :
    (scannerIdle p).disp = { p.disp with scanJob := some j.returned } := by
  simp only [scannerIdle, Part.onJob, Part.onDisp, Part.onServo, Part.onScanner, job, Option.map_some, offerStored,
    Job.returned, caused, reduceCtorEq, and_false, if_false]

/-- A STORE that is aborted at HOME ends at once (R104). -/
theorem abortScan_homed {named : Named} (job : p.disp.scanJob = some j) (free : j.firstCause = none)
    (scans : j.scannerSide = ⟨true, false⟩) (unsent : j.senderSide.active = false) (home : p.pins.home = true)
    (works : p.scanner.state ≠ .back) (runs : p.scanner.state ≠ .idle) :
    ∃ x : Part, abortJob .scan named p = scannerIdle x ∧ x.path = (returning p).path ∧
      (scannerIdle x).disp = { p.disp with
        scanJob := some (j.aborted (p.stateFor .aborted named) (p.lineFor .aborted named)).returned } ∧
      (scannerIdle x).scanner =
        { (returning p).scanner with
          state := .idle, homing := false, reverse := false, position := some 0,
          homeCount := if (returning p).scanner.position = some 0 then p.scanner.homeCount else 0,
          stepTicks := if (returning p).scanner.position = some 0 then p.scanner.stepTicks else 0 } := by
  obtain ⟨x, homed, path, disp, scanner⟩ := windDownScanner_homed (p := p.withScan _) home
    (aborted_unfaulted (j := j) p (p.stateFor .aborted named) (p.lineFor .aborted named)) works runs
  refine ⟨x, ?_, ?_, ?_, ?_⟩
  · rw [abortScan_winds job free, windDown_scanner (slot := .scan) rfl (by simp [Job.aborted, Side.works, scans])
      (by simp [Job.aborted, Side.works, unsent]), homed]
  · rw [path, returning_withScan]
    rfl
  · rw [scannerIdle_disp (c := .aborted) (by rw [disp]; rfl) rfl, disp]
    rfl
  · rw [scanner, returning_withScan]
    rfl

theorem returning_taken (taken : p.path.port ≠ .idle) : (returning p).path.port ≠ .idle := by
  cases state : p.scanner.state
  case scan =>
    simp only [returning, state, Claims.withdrawn]
    cases port : p.path.port with
    | idle => exact absurd port taken
    | host => simp [port]
    | part t => by_cases who : t.who = .scanner <;> simp [who, port]
  all_goals
    simp only [returning, state]
    exact taken

theorem jobOver_relay (same : q.disp.relayJob = p.disp.relayJob) : q.jobOver .relay = p.jobOver .relay := by
  simp only [Part.jobOver, Part.jobAt, same]

theorem echo_disp (code : Byte) (result : CommandResult) (p : Part) :
    (echoCommand code result p).disp = echoed code result p.disp := rfl

/-- The event of an ABORT_SCAN that ends a STORE at HOME (R104, R148). -/
theorem abortScan_ends (w : writable 5 s) (opened : s.part.isOpen = true) (job : s.part.disp.scanJob = some j)
    (free : j.firstCause = none) (scans : j.scannerSide = ⟨true, false⟩) (unsent : j.senderSide.active = false)
    (home : s.part.pins.home = true) (works : s.part.scanner.state ≠ .back) (runs : s.part.scanner.state ≠ .idle) :
    answers .abortScan s fun t =>
      t.part.scanner =
        { (returning s.part.hosted).scanner with
          state := .idle, homing := false, reverse := false, position := some 0,
          homeCount := if (returning s.part.hosted).scanner.position = some 0 then s.part.scanner.homeCount else 0,
          stepTicks := if (returning s.part.hosted).scanner.position = some 0 then s.part.scanner.stepTicks else 0 } ∧
      t.part.path = (returning s.part.hosted).path ∧ t.part.servo.demands.scanner = none ∧
      t.part.disp = echoed 0x03 .done
        { s.part.disp with
          scanJob := none, pendingJob := checked s.part.disp.pendingJob,
          slipQueue := s.part.disp.slipQueue ++
            [(j.aborted s.part.scanner.state.code s.part.scanner.line).slip] } := by
  obtain ⟨x, winds, path, disp, scanner⟩ := abortScan_homed (p := s.part.hosted) (named := .scanner) job free scans unsent
    home works runs
  refine answers_of_command w opened rfl (by decide) fun t part => ?_
  rw [takeCommand_abortScan (p := s.part.hosted) opened, takeAbortScan_of_job (p := s.part.hosted) job, winds] at part
  obtain ⟨path', scanner'⟩ := closeEvent_taken (p := echoCommand 3 .done (scannerIdle x)) s.part
    (fun idle => returning_taken (p := s.part.hosted) nofun (by rw [← path]; exact idle)) rfl
  obtain ⟨carry, demands⟩ := closeEvent_demands s.part (echoCommand 3 .done (scannerIdle x))
  have scan : (echoCommand 3 .done (scannerIdle x)).disp.scanJob =
      some (j.aborted s.part.scanner.state.code s.part.scanner.line).returned := by
    rw [echo_disp]
    exact congrArg Dispatcher.scanJob disp
  have relay : (echoCommand 3 .done (scannerIdle x)).disp.relayJob = s.part.disp.relayJob := by
    rw [echo_disp]
    exact (congrArg Dispatcher.relayJob disp :)
  have ended := finishJobs_scan_disp scan (by simp [Job.over, Job.aborted, Job.returned, unsent, scans, Side.over])
    ((jobOver_relay relay).trans ((Part.settled_iff.mp w.1.2).1 .relay))
  rw [part]
  refine ⟨scanner'.trans scanner, path'.trans path, ?_, ?_⟩
  · rw [demands]
    rfl
  · rw [closeEvent_disp, ended, echo_disp, disp]
    rfl

/-- Settles O31: the late abort, the first cause, and the wind-down that it brings. -/
theorem abortsNameTheRunningJob : Obligations.AbortsNameTheRunningJob := by
  intro s w opened p c d h echo caused aborted
  have settled := w.1.2
  have placed := isOpen_placed opened
  have late {slot : JobSlot} {code : Byte} {named : Named} (line : Nat)
      (of_line : h.lineFor .abortLate named = line) :
      closeEvent s.part (echoCommand code .done (h.onTally slot fun t => t.place .abortLate (h.lineFor .abortLate named))) =
        ends s.part (echo code .done (h.onTally slot fun t => t.place .abortLate line)) := by
    rw [of_line]
    exact closeEvent_of_work settled (by simp [h, p, Part.isOpen]) (by simp; rfl) (onTally_work h slot _)
  have wound {x : Part} {j k : Job} {code : Byte} (on : x.servo = s.part.servo ∧ x.disp = s.part.disp ∧
      x.isOpen = s.part.isOpen) (job : p.disp.scanJob = some j) (sides : k.sides = j.sides) :
      closeEvent s.part (echoCommand code .done (x.withScan k)) =
        ends s.part (echo code .done { x with disp := { p.disp with scanJob := some k } }) := by
    obtain ⟨servo, disp, device⟩ := on
    have same : ({ x with disp := { p.disp with scanJob := some k } } : Part) = x.withScan k := by
      rw [Part.withScan, disp]
    have work : (x.withScan k).disp.work = s.part.disp.work :=
      (withScan_work (p := x) (by rw [disp]; exact job) sides).trans (by rw [disp])
    rw [same]
    exact closeEvent_of_work settled device servo work
  have first_cause {t : State} {slot : JobSlot} {j : Job} {x : Part} {code : Byte} {detail : Detail}
      (part : t.part = closeEvent s.part (echoCommand code .done x))
      (caused : x.causedAt slot j.spec .aborted (some detail)) :
      causedIn slot j.spec .aborted (some detail) t.part ∧ t.part.disp.lastCode = code ∧
        t.part.disp.lastResult = .done := by
    obtain ⟨k, at_k, named_k⟩ := caused
    have on := Dispatcher.goesOn.closeEvent s.part (echoCommand code .done x)
    rw [part]
    exact ⟨causedIn_closeEvent s.part ⟨k, (echo_jobAt code .done x slot).trans at_k, named_k⟩, on.lastCode, on.lastResult⟩
  refine ⟨fun unsent => ?_, fun unscanned => ?_, fun slot j cause slot_of job first => ?_, fun j cause job first => ?_,
    fun slot j slot_of job free => ?_, fun j job free => ⟨?_, fun scans unsent away => ?_,
      fun scans unsent home works runs => ?_, ?_⟩⟩
  · refine takes_of_command w placed rfl (by decide) ?_
    have nothing : takeAbortSend s.part.hosted = (.nothing, s.part.hosted) := by
      simp only [takeAbortSend, show s.part.hosted.senderSlot = none from unsent]
    rw [takeCommand_abortSend (p := s.part.hosted) opened, nothing]
    exact closeEvent_of_work settled rfl rfl rfl
  · refine takes_of_command w placed rfl (by decide) ?_
    have nothing : takeAbortScan s.part.hosted = (.nothing, s.part.hosted) := by
      simp [takeAbortScan, Part.runs, Part.jobAt, show s.part.disp.scanJob = none from unscanned]
    rw [takeCommand_abortScan (p := s.part.hosted) opened, nothing]
    exact closeEvent_of_work settled rfl rfl rfl
  · refine takes_of_command w placed rfl (by decide) ?_
    rw [takeCommand_abortSend (p := s.part.hosted) opened, takeAbortSend_of_slot (p := s.part.hosted) slot_of,
      abortJob_late (p := s.part.hosted) job first]
    exact late d.line rfl
  · refine takes_of_command w placed rfl (by decide) ?_
    rw [takeCommand_abortScan (p := s.part.hosted) opened, takeAbortScan_of_job (p := s.part.hosted) job,
      abortJob_late (p := s.part.hosted) (slot := .scan) job first]
    exact late c.line rfl
  · refine answers_of_command w opened rfl (by decide) fun t part => ?_
    rw [takeCommand_abortSend (p := s.part.hosted) opened, takeAbortSend_of_slot (p := s.part.hosted) slot_of] at part
    exact first_cause part (causedAt_abortJob (p := s.part.hosted) job free .sender)
  · refine answers_of_command w opened rfl (by decide) fun t part => ?_
    rw [takeCommand_abortScan (p := s.part.hosted) opened, takeAbortScan_of_job (p := s.part.hosted) job] at part
    exact first_cause part (causedAt_abortJob (p := s.part.hosted) (slot := .scan) job free .scanner)
  · refine takes_of_command w placed rfl (by decide) ?_
    have winds := abortScan_alone (p := s.part.hosted) (named := .scanner) job free scans unsent away
    rw [takeCommand_abortScan (p := s.part.hosted) opened, takeAbortScan_of_job (p := s.part.hosted) job, winds]
    obtain ⟨servo, disp, device, -⟩ := returning_frame (p := s.part.hosted)
    exact wound ⟨servo, disp, device⟩ job rfl
  · exact abortScan_ends w opened job free scans unsent home works runs
  · intro kind alone scans sends away works
    have slot_of : s.part.hosted.senderSlot = some .scan := by
      simp [Part.senderSlot, Part.hosted, show s.part.disp.relayJob = none from alone,
        show s.part.disp.scanJob = some j from job, kind]
    have winds {named : Named} := abortScan_both (p := s.part.hosted) (named := named) job free scans sends away works
    have frame : ∀ x : Part, x = (if s.part.sender.state = .stop then returning s.part.hosted
        else toStop (returning s.part.hosted)) → x.servo = s.part.servo ∧ x.disp = s.part.disp ∧ x.isOpen = s.part.isOpen := by
      rintro x rfl
      obtain ⟨servo, disp, device, -⟩ := returning_frame (p := s.part.hosted)
      split
      · exact ⟨servo, disp, device⟩
      · obtain ⟨servo', disp', device'⟩ := toStop_frame (p := returning s.part.hosted)
        exact ⟨servo'.trans servo, disp'.trans disp, device'.trans device⟩
    constructor
    · refine takes_of_command w placed rfl (by decide) ?_
      rw [takeCommand_abortSend (p := s.part.hosted) opened, takeAbortSend_of_slot (p := s.part.hosted) slot_of, winds]
      exact wound (frame _ rfl) job rfl
    · refine takes_of_command w placed rfl (by decide) ?_
      rw [takeCommand_abortScan (p := s.part.hosted) opened, takeAbortScan_of_job (p := s.part.hosted) job, winds]
      exact wound (frame _ rfl) job rfl

end

end Sys2Proof.Machine
end

section
/-! Dispatch (R33 to R35): what it does at an open gate, and the event at which it happens. -/

namespace Sys2Proof.Machine

open Sys2Proof.Claims (ends endsIn leaves driven lastFound)

section
variable {s : State} {pins : Pins} {r : PendingJob} {p q x before : Part} {j : Job}

/-! ## The event of a dispatch -/

theorem leaves_of_dispatch (event : closeEvent s.part (dispatchPending (s.part.setPins pins)) = ends s.part x) :
    leaves (.dispatch pins) s x := by
  have run : exec (.dispatch pins) s = .next (s.onPart fun p => closeEvent p (dispatchPending (p.setPins pins))) := rfl
  exact endsIn_of_exec (run.trans (by rw [← event]; rfl))

/-- With no dispatch due after the jobs have ended, the servo acts at the event (R41, R52, R53). -/
theorem closeEvent_acts_after (finished : finishJobs q = x) (none_due : x.awaitsDispatch = false)
    (marked : x.servo.speedFaultMark = true → x.drumHasJob = true) :
    closeEvent before q = ends before (driven (foundBefore before x) x) := by
  rw [closeEvent, finished, none_due, settleDemand, if_neg Bool.false_ne_true, tidyServo_actOnDemand _ marked]
  rfl

theorem foundBefore_of_servo (unsettled : q.servo.unsettled = before.servo.unsettled) :
    foundBefore before q = lastFound before.servo := by rw [foundBefore, lastFound, unsettled]

/-- A record that starts no scanner has no change left open for it (R33, log 52). -/
theorem unsettled_of_no_start (settled : p.settled = true) (record : p.disp.pendingJob = some r)
    (idle : r.startsScanner = false) : p.servo.unsettled = none :=
  unsettled_of_none_due settled (by simp [Part.awaitsDispatch, record, idle])

/-- An event after which the record is gone, and which leaves the servo as it was with nothing left open. -/
theorem closeEvent_of_no_record (settled : before.settled = true) (found : before.servo.unsettled = none)
    (servo : q.servo = before.servo) (running : ∀ slot, q.jobOver slot = false) (no_record : q.disp.pendingJob = none)
    (scans : q.disp.scanJob = before.disp.scanJob) : closeEvent before q = ends before q := by
  obtain ⟨-, lock, marked, -, -⟩ := Part.settled_iff.mp settled
  have mark : q.servo.speedFaultMark = true → q.drumHasJob = true := by
    rwa [Part.drumHasJob, Part.jobDemands, servo, scans]
  rw [closeEvent_acts running (awaitsDispatch_of_no_record no_record) mark,
    show foundBefore before q = q.servo.demands.inForce by simp [foundBefore, servo, found],
    driven_same (servo ▸ found) (servo ▸ lock)]

/-! ## The gate -/

theorem gatePasses_iff (opened : p.isOpen = true) (room : p.slipLoad < 4) : p.gatePasses r = true ↔
    r.badField.isSome = true ∨ (r.toCancel = true ∧ r.held = false) ∨ p.resourcesFree r.spec.kind = true := by
  simp [Part.gatePasses, opened, Part.roomForSlip_eq, room, or_assoc]

/-- The part as a dispatch finds it, with the record taken out of its slot. -/
def Part.dispatching (p : Part) (pins : Pins) : Part := (p.setPins pins).onDisp fun d => { d with pendingJob := none }

theorem dispatchPending_idle (record : p.disp.pendingJob = some r) (passes : (p.setPins pins).gatePasses r = true)
    (idle : r.idleRecord = true) :
    dispatchPending (p.setPins pins) = queueSlip r.slip (p.dispatching pins) := by
  simp [dispatchPending, record, passes, idle, Part.dispatching]

theorem dispatchPending_starts (record : p.disp.pendingJob = some r) (passes : (p.setPins pins).gatePasses r = true)
    (valid : r.idleRecord = false) :
    dispatchPending (p.setPins pins) = startJob r.spec (p.dispatching pins) := by
  simp [dispatchPending, record, passes, valid, Part.dispatching]

theorem dispatchPending_waits (record : p.disp.pendingJob = some r) (waits : (p.setPins pins).gatePasses r = false) :
    dispatchPending (p.setPins pins) = p.setPins pins := by
  simp [dispatchPending, record, waits]

theorem valid_of (uncancelled : r.toCancel = false) (good : r.badField = none) : r.idleRecord = false := by
  simp [PendingJob.idleRecord, uncancelled, good]

theorem startsScanner_of_idle (idle : r.idleRecord = true) : r.startsScanner = false := by
  simp [PendingJob.startsScanner, idle]

/-- Settles O39: the gate is open, the RELAY takes the free sender, and no demand changes. -/
theorem dispatchStartsARelay : Obligations.DispatchStartsARelay := by
  intro s pins r settled opened record room uncancelled good kind free sensed p
  refine leaves_of_dispatch ?_
  have passes : (s.part.setPins pins).gatePasses r = true := by
    refine (gatePasses_iff (p := s.part.setPins pins) opened room).mpr (.inr (.inr ?_))
    rw [kind]
    exact Option.isNone_iff_eq_none.mpr free
  have idle : r.startsScanner = false := by simp [PendingJob.startsScanner, kind]
  have senses : (s.part.dispatching pins).pins.lsn = true := sensed
  rw [dispatchPending_starts record passes (valid_of uncancelled good)]
  have starts : startJob r.spec (s.part.dispatching pins) =
      startSender r.spec (placeJob (newJob r.spec false true) (s.part.dispatching pins)) := by
    simp only [startJob, kind, senses, if_true]
  have live : decide (JobKind.relay = .live) = false := rfl
  simp only [starts, startSender, placeJob, newJob, kind, if_true, startTimer, live, decide_true]
  refine closeEvent_of_no_record settled (unsettled_of_no_start settled record idle) rfl (fun slot => ?_) rfl rfl
  cases slot with
  | relay => rfl
  | scan => exact (Part.settled_iff.mp settled).1 .scan

/-! ## A record that starts no side -/

theorem finishJobs_of_one {slot : JobSlot} (running : ∀ other ≠ slot, q.jobOver other = false) :
    finishJobs q = finishJob slot q := by
  cases slot with
  | scan =>
    have relay := running .relay (by decide)
    have still : (finishJob .scan q).jobOver .relay = false := by
      rw [Part.jobOver, finishJob_jobAt_of_ne (by decide)]
      exact relay
    rw [finishJobs, if_neg (by simp [relay]), finishJob_running .relay still]
  | relay =>
    have scan := running .scan (by decide)
    rw [finishJobs, if_neg (by simp [scan]), finishJob_running .scan scan]

/-- The job of a LIVE or RELAY that finds no line (R121), with the state of the sender at its dispatch. -/
def JobSpec.unsensed (spec : JobSpec) (state : Nat) : Job :=
  { newJob spec false false with
    firstCause := some .noLine, tally := { Tally.zero with detail := some ⟨2, state, 0⟩ } }

/-- A dispatch of a job without line sense, at the event's end (R41, R121). -/
def Part.unsensed (p : Part) (pins : Pins) (spec : JobSpec) : Part :=
  { p with pins := pins, sender := { p.sender with line := 0 },
           disp := { p.disp with
             pendingJob := none,
             slipQueue := p.disp.slipQueue ++ [(spec.unsensed p.sender.state.code).slip] } }

theorem startJob_unsensed (kind : r.spec.kind = .live ∨ r.spec.kind = .relay) (unsensed : pins.lsn = false) :
    startJob r.spec (p.dispatching pins) = offer r.spec.slot .noLine .sender
      ((placeJob (newJob r.spec false false) (p.dispatching pins)).onSender fun d => { d with line := 0 }) := by
  have lsn : (p.dispatching pins).pins.lsn = false := unsensed
  rcases kind with kind | kind <;> simp [startJob, JobSpec.slot, kind, lsn]

theorem windDown_of_no_side {j : Job} {slot : JobSlot} (job : q.jobAt slot = some j)
    (scans : j.scannerSide.works = false) (sends : j.senderSide.works = false) (c : Cause) : windDown slot c q = q := by
  simp [windDown, job, scans, sends]

theorem offer_noLine {j : Job} {slot : JobSlot} (job : q.jobAt slot = some j) (free : j.firstCause = none)
    (scans : j.scannerSide.works = false) (sends : j.senderSide.works = false) :
    offer slot .noLine .sender q =
      q.onJob slot fun j => j.setFirst .noLine ⟨2, q.sender.state.code, q.sender.line⟩ := by
  have stays : switchToTimer j .noLine q = q := by simp [switchToTimer, Cause.isDrumFault]
  have named : (q.onJob slot fun j => j.setFirst .noLine ⟨2, q.sender.state.code, q.sender.line⟩).jobAt slot =
      some (j.setFirst .noLine ⟨2, q.sender.state.code, q.sender.line⟩) := by rw [jobAt_onJob_same, job]; rfl
  rw [offer_winds job free rfl stays]
  exact windDown_of_no_side named scans sends .noLine

theorem Dispatcher.no_scan {d : Dispatcher} (idle : d.scanJob = none) : { d with scanJob := none } = d := by
  rw [← idle]

theorem Dispatcher.no_relay {d : Dispatcher} (idle : d.relayJob = none) : { d with relayJob := none } = d := by
  rw [← idle]

/-- A LIVE or RELAY without line sense is a slip at the end of its dispatch (R41, R121). -/
theorem finishJobs_unsensed (kind : r.spec.kind = .live ∨ r.spec.kind = .relay) (unsensed : pins.lsn = false)
    (running : ∀ slot, p.jobOver slot = false) (free : p.jobAt r.spec.slot = none) :
    finishJobs (startJob r.spec (p.dispatching pins)) = p.unsensed pins r.spec := by
  let q := (placeJob (newJob r.spec false false) (p.dispatching pins)).onSender fun d => { d with line := 0 }
  have placed : q.jobAt r.spec.slot = some (newJob r.spec false false) := by
    rcases kind with kind | kind <;> simp [q, JobSpec.slot, placeJob, newJob, kind, Part.jobAt]
  have offered := offer_noLine placed rfl rfl rfl
  have ended : (offer r.spec.slot .noLine .sender q).jobAt r.spec.slot = some (r.spec.unsensed p.sender.state.code) := by
    rw [offered, jobAt_onJob_same, placed]
    rcases kind with kind | kind <;> simp only [q, placeJob, newJob, kind] <;> rfl
  have others (other : JobSlot) (ne : other ≠ r.spec.slot) :
      (offer r.spec.slot .noLine .sender q).jobOver other = false := by
    rw [offered, Part.jobOver, jobAt_onJob_other ne]
    refine Eq.trans ?_ (running other)
    rcases kind with kind | kind <;> cases other <;> simp [JobSpec.slot, kind] at ne <;>
      simp [q, placeJob, newJob, kind, Part.jobAt, Part.jobOver, Part.dispatching]
  have incomplete (x : Part) : placeCarry (r.spec.unsensed p.sender.state.code) x = x :=
    if_neg fun completes => absurd completes.2 (show ¬ Cause.noLine.isCompletion = true by decide)
  rw [startJob_unsensed kind unsensed, finishJobs_of_one others, finishJob_of_over ended rfl, incomplete, offered]
  rcases kind with kind | kind
  · have idle : p.disp.scanJob = none := by simpa [JobSpec.slot, kind, Part.jobAt] using free
    simp only [q, placeJob, newJob, kind, JobSpec.slot, reduceCtorEq, if_false, Part.unsensed]
    rw [← Dispatcher.no_scan idle]
    rfl
  · have idle : p.disp.relayJob = none := by simpa [JobSpec.slot, kind, Part.jobAt] using free
    simp only [q, placeJob, newJob, kind, JobSpec.slot, if_true, Part.unsensed]
    rw [← Dispatcher.no_relay idle]
    rfl

/-- The event of a dispatch that leaves jobs and servo as they are (R34). -/
theorem leaves_of_idle (settled : s.part.settled = true) (record : s.part.disp.pendingJob = some r)
    (passes : (s.part.setPins pins).gatePasses r = true) (idle : r.idleRecord = true) :
    leaves (.dispatch pins) s
      { s.part with pins := pins, disp := { s.part.disp with
          pendingJob := none, slipQueue := s.part.disp.slipQueue ++ [r.slip] } } := by
  refine leaves_of_dispatch ?_
  rw [dispatchPending_idle record passes idle]
  exact closeEvent_of_no_record settled (unsettled_of_no_start settled record (startsScanner_of_idle idle)) rfl
    (Part.settled_iff.mp settled).1 rfl rfl

/-- Settles O37: the record ends as a slip or waits at the gate; without line sense the new job ends at the event. -/
theorem dispatchOfAJobThatStartsNoSide : Obligations.DispatchOfAJobThatStartsNoSide := by
  intro s pins r settled opened record room p d
  have gate : (s.part.setPins pins).gatePasses r = true ↔ r.badField.isSome = true ∨
      (r.toCancel = true ∧ r.held = false) ∨ s.part.resourcesFree r.spec.kind = true :=
    gatePasses_iff (p := s.part.setPins pins) opened room
  refine ⟨fun cancelled ready => ?_, fun waits good taken => ?_, fun i uncancelled bad => ?_,
    fun uncancelled good kind free unsensed => ?_⟩
  · have slip : r.slip = ⟨r.spec, .cancelled, Tally.zero⟩ := if_pos cancelled
    have left := leaves_of_idle (pins := pins) settled record (gate.mpr ?_) (by simp [PendingJob.idleRecord, cancelled])
    · rwa [slip] at left
    · rcases ready with ready | bad | free
      · exact .inr (.inl ⟨cancelled, ready⟩)
      · exact .inl (Option.isSome_iff_ne_none.mpr bad)
      · exact .inr (.inr free)
  · refine leaves_of_dispatch ?_
    rw [dispatchPending_waits record (Bool.eq_false_iff.mpr fun passes => ?_)]
    · exact closeEvent_of_work settled rfl rfl rfl
    · have held : ¬ (r.toCancel = true ∧ r.held = false) := by grind
      rcases gate.mp passes with bad | ready | free
      · simp [good] at bad
      · exact held ready
      · exact Bool.false_ne_true (taken.symm.trans free)
  · have slip : r.slip = ⟨r.spec, .badJob, { Tally.zero with detail := some ⟨5, i, 0⟩ }⟩ := by
      simp [PendingJob.slip, uncancelled, bad, Cause.side]
    have left := leaves_of_idle (pins := pins) settled record (gate.mpr (.inl (by simp [bad])))
      (by simp [PendingJob.idleRecord, bad])
    rwa [slip] at left
  · refine leaves_of_dispatch ?_
    obtain ⟨running, -, marked, -, -⟩ := Part.settled_iff.mp settled
    have slot_free : s.part.jobAt r.spec.slot = none := by
      rcases kind with kind | kind
      · simp_all [Part.resourcesFree, JobSpec.slot, Part.jobAt, p]
      · have idle : s.part.senderSlot = none := by simpa [Part.resourcesFree, kind, p] using free
        cases relay : s.part.disp.relayJob with
        | none => simp [JobSpec.slot, kind, Part.jobAt, relay]
        | some j => simp [Part.senderSlot, relay] at idle
    rw [dispatchPending_starts record (gate.mpr (.inr (.inr free))) (valid_of uncancelled good),
      closeEvent_acts_after (x := s.part.unsensed pins r.spec) (finishJobs_unsensed kind unsensed running slot_free)
        (awaitsDispatch_of_no_record rfl) marked]
    rfl

/-! ## The start of the scanner -/

/-- The scanner at the take of a job, before it is sent for its home (R85). -/
def Part.freshScanner (p : Part) (spec : JobSpec) : Scanner :=
  { p.scanner with
    white := p.settings.defaultWhite, black := p.settings.defaultBlack, line := 0, stripRun := 0, stall := 0,
    armed := false, enteredScan := false, scanDone := false, stepsOwed := 0,
    senderIndex := if spec.kind = .live then p.scanner.producer else p.scanner.senderIndex,
    releaseCopy := if spec.kind = .live ∧ ¬ spec.keep then p.scanner.producer else p.scanner.releaseCopy }

/-- The scanner in WARMUP with HOME active, and in HOMING otherwise (R86 to R88). -/
def Scanner.sent (home : Bool) (c : Scanner) : Scanner :=
  if home then
    (if c.position.isSome then { c with state := .warmup, lamp := true, lampCount := 0 }
     else { c with state := .warmup, lamp := true, lampCount := 0, position := some 0, homing := false,
                   reverse := false, homeCount := 0 })
  else { c with state := .homing, position := none, homing := true, reverse := true, homeCount := 0, stepTicks := 0 }

/-- The servo with the demand of a job of the scanner (R35, R65). -/
def Servo.demanded (v : Servo) (speed : Nat) : Servo :=
  { v with demands := { v.demands with scanner := some ⟨speed, false⟩, carry := none },
           lockTimer := 0, lockRunning := true, noLockOffered := false }

theorem sends_eq (q : Part) : (if q.pins.home ∧ q.scanner.position.isSome then enterWarmup q else enterHoming q) =
    { q with scanner := q.scanner.sent q.pins.home } := by
  cases home : q.pins.home with
  | false => simp [enterHoming, startHoming, Scanner.sent, home, Part.onScanner]
  | true => cases position : q.scanner.position <;> simp [enterWarmup, enterHoming, Scanner.sent, home, position, Part.onScanner]

theorem startScanner_eq (job : p.disp.scanJob = some j) (spec : JobSpec) : startScanner spec p =
    { p.withScan { j with tally := { j.tally with white := p.settings.defaultWhite, black := p.settings.defaultBlack } } with
      scanner := (p.freshScanner spec).sent p.pins.home, servo := p.servo.demanded spec.speed } := by
  have refs : setReferences p.settings.defaultWhite p.settings.defaultBlack p =
      { p.withScan { j with tally := { j.tally with white := p.settings.defaultWhite, black := p.settings.defaultBlack } }
        with scanner := { p.scanner with white := p.settings.defaultWhite, black := p.settings.defaultBlack } } := by
    simp only [setReferences, Part.onTally, Part.onJob, Part.onDisp, Part.onScanner, job, Option.map_some]
    rfl
  simp only [startScanner, refs]
  exact (sends_eq _).trans rfl

/-- The sender that waits with its LIVE for the drum (R121). -/
def Sender.called (d : Sender) (spec : JobSpec) : Sender :=
  { d with line := 0, stall := 0, lossCount := 0, lossOffered := false, events := 0, stopCount := 0, onTimer := false,
           callMark := true, timeout := 0, state := if spec.waitReady then .calling else .standby }

/-- The job of the scanner at its start (R35, R84). -/
def Part.scanJobOf (p : Part) (spec : JobSpec) : Job :=
  ⟨spec, ⟨true, false⟩, ⟨decide (spec.kind = .live), false⟩, none,
    { Tally.zero with white := p.settings.defaultWhite, black := p.settings.defaultBlack }⟩

/-- The part after a dispatch that starts the scanner, before the servo acts (R35, R85). -/
def Part.scanStarted (p : Part) (pins : Pins) (spec : JobSpec) : Part :=
  { p with
    pins := pins,
    disp := { p.disp with pendingJob := none, scanJob := some (p.scanJobOf spec) },
    scanner := (p.freshScanner spec).sent pins.home,
    sender := if spec.kind = .live then p.sender.called spec else p.sender,
    servo := p.servo.demanded spec.speed }

theorem startJob_scan {spec : JobSpec} (starts : spec.kind = .store ∨ (spec.kind = .live ∧ pins.lsn = true)) :
    startJob spec (p.dispatching pins) = p.scanStarted pins spec := by
  rcases starts with kind | ⟨kind, sensed⟩
  · have placed : startJob spec (p.dispatching pins) =
        startScanner spec ((p.dispatching pins).withScan (newJob spec true false)) := by
      simp only [startJob, placeJob, kind, newJob, reduceCtorEq, if_false]
      rfl
    rw [placed, startScanner_eq rfl]
    simp only [Part.scanStarted, Part.scanJobOf, Part.freshScanner, kind, reduceCtorEq, if_false, decide_false, false_and]
    rfl
  · have senses : (p.dispatching pins).pins.lsn = true := sensed
    have placed : startJob spec (p.dispatching pins) =
        startScanner spec { (p.dispatching pins).withScan (newJob spec true true) with sender := p.sender.called spec } := by
      simp only [startJob, placeJob, startSender, kind, senses, newJob, reduceCtorEq, if_false, if_true, decide_false, decide_true]
      rfl
    rw [placed, startScanner_eq rfl]
    simp only [Part.scanStarted, Part.scanJobOf, Part.freshScanner, kind, if_true, decide_true, true_and]
    rfl

theorem scanStarted_demand (pins : Pins) (spec : JobSpec) :
    (p.scanStarted pins spec).servo.demands.inForce = some spec.speed := rfl

/-- The start of a job at the speed in force leaves the drum as it is (R52). -/
theorem scanStarted_same {spec : JobSpec} : (driven (some spec.speed) (p.scanStarted pins spec)).servo =
    { (p.scanStarted pins spec).servo with unsettled := none, lockRunning := decide (p.servo.drum ≠ .locked) } := by
  rw [driven, if_pos (scanStarted_demand pins spec).symm]
  by_cases locked : p.servo.drum = .locked <;> simp [Part.scanStarted, Servo.demanded, locked]

/-- A job starts a STOPPED drum (R54). -/
theorem scanStarted_stopped {spec : JobSpec} {was : Option Nat} (other : was ≠ some spec.speed)
    (stopped : p.servo.drum = .stopped) : (driven was (p.scanStarted pins spec)).servo =
      { (p.scanStarted pins spec).servo with
        unsettled := none, target := spec.speed, drum := .spinup, duty := p.settings.spinupDuty,
        nextDuty := p.settings.spinupDuty, goodCount := 0, quiet := 0 } := by
  have halted : (p.scanStarted pins spec).servo.drum = .stopped := stopped
  simp only [driven, scanStarted_demand pins spec, if_neg other, halted, if_true]
  rfl

/-- Settles O38: the scanner takes the job and its demand, and the servo finds the demand in force at the event. -/
theorem dispatchStartsTheScanner : Obligations.DispatchStartsTheScanner := by
  intro s pins r settled opened record room uncancelled good idle p cfg live starts c found started
  obtain ⟨running, -, -, -, -⟩ := Part.settled_iff.mp settled
  have free : s.part.resourcesFree r.spec.kind = true := by
    rcases starts with kind | ⟨kind, alone, -⟩
    · simp [Part.resourcesFree, kind, idle]
    · simp [Part.resourcesFree, show r.spec.kind = .live from kind, idle, alone]
  have dispatched : dispatchPending (s.part.setPins pins) = s.part.scanStarted pins r.spec := by
    rw [dispatchPending_starts record
      ((gatePasses_iff (p := s.part.setPins pins) opened room).mpr (.inr (.inr free))) (valid_of uncancelled good)]
    exact startJob_scan (starts.imp id fun h => ⟨h.1, h.2.2⟩)
  have named : started = s.part.scanStarted pins r.spec := rfl
  rw [named]
  refine ⟨leaves_of_dispatch ?_, fun same => ?_, fun other stopped => scanStarted_stopped other stopped⟩
  · have ends_now (slot : JobSlot) : (s.part.scanStarted pins r.spec).jobOver slot = false := by
      cases slot
      · rfl
      · exact running .relay
    rw [dispatched, closeEvent_acts ends_now (awaitsDispatch_of_no_record rfl) fun _ => rfl]
    rfl
  · rw [same]
    exact scanStarted_same

end

end Sys2Proof.Machine
end

section
/-! The ends of a homing of a STORE (R86, R87, R104): its job becomes a slip, and the drum loses its demand. -/

namespace Sys2Proof.Machine

open Sys2Proof.Claims (ends endsIn leaves answers driven lastFound checked retargeted)

section
variable {p q x before : Part} {j k : Job} {was : Option Nat}

/-! ## The servo where the drum has no job -/

/-- The part without a speed-fault mark (R64). -/
def Part.unmarked (p : Part) : Part := p.onServo fun v => { v with speedFaultMark := false }

theorem takeTarget_unmarked (speed : Nat) (p : Part) : takeTarget speed p.unmarked = (takeTarget speed p).unmarked := by
  by_cases stopped : p.servo.drum = .stopped
  · rw [takeTarget_stopped (p := p.unmarked) speed stopped, takeTarget_stopped speed stopped]
    rfl
  · rw [takeTarget_turning (p := p.unmarked) speed stopped, takeTarget_turning speed stopped]
    have commutes (v : Servo) : retargeted p.settings speed { v with speedFaultMark := false } =
        { retargeted p.settings speed v with speedFaultMark := false } := by
      simp only [retargeted]
      split <;> rfl
    have servo : p.unmarked.timedServo = { p.timedServo with speedFaultMark := false } := rfl
    rw [servo, show p.unmarked.settings = p.settings from rfl, commutes]
    rfl

theorem dropTarget_unmarked (p : Part) : dropTarget p.unmarked = (dropTarget p).unmarked := by
  rw [dropTarget_eq, dropTarget_eq]
  by_cases still : p.servo.drum = .stopped ∨ p.servo.drum = .spindown
  · rw [if_pos still]
    exact if_pos still
  · rw [if_neg still]
    refine (if_neg still).trans ?_
    rw [enterSpindown_eq, enterSpindown_eq]
    rfl

theorem actOnDemand_unmarked (was : Option Nat) (p : Part) :
    actOnDemand was p.unmarked = (actOnDemand was p).unmarked := by
  by_cases same : was = p.servo.demands.inForce
  · have plain : actOnDemand was p = p.found := if_pos same
    have unmarked : actOnDemand was p.unmarked = p.unmarked.found := if_pos same
    rw [plain, unmarked]
    rfl
  · have acts (q : Part) (other : was ≠ q.servo.demands.inForce) : actOnDemand was q =
        match q.servo.demands.inForce with
        | some speed => takeTarget speed q.found
        | none => dropTarget q.found := if_neg other
    rw [acts p same, acts p.unmarked same]
    have demand : p.unmarked.servo.demands.inForce = p.servo.demands.inForce := rfl
    rw [demand]
    cases p.servo.demands.inForce with
    | none => exact dropTarget_unmarked p.found
    | some speed => exact takeTarget_unmarked speed p.found

theorem tidyServo_jobless (jobless : p.drumHasJob = false) : tidyServo p = tidyServo p.unmarked := by
  have tidied (q : Part) (q_jobless : q.drumHasJob = false) : tidyServo q =
      (q.onServo fun v => { v with lockRunning := if v.drum = .locked then false else v.lockRunning }).unmarked := by
    by_cases locked : q.servo.drum = .locked
    · simp only [tidyServo, locked, if_true]
      refine (if_neg (Bool.eq_false_iff.mp q_jobless)).trans ?_
      simp only [Part.unmarked, Part.onServo, locked, if_true]
    · simp only [tidyServo, locked, if_false]
      refine (if_neg (Bool.eq_false_iff.mp q_jobless)).trans ?_
      simp only [Part.unmarked, Part.onServo, locked, if_false]
  rw [tidied p jobless, tidied p.unmarked jobless]
  rfl

/-- What the servo does once at an event where the drum has no job: no speed-fault mark stands (R52, R53, R64). -/
theorem tidyServo_actOnDemand_jobless (jobless : p.drumHasJob = false) :
    tidyServo (actOnDemand was p) = driven was p.unmarked := by
  have still : (actOnDemand was p).drumHasJob = false := by
    obtain ⟨-, demands⟩ := actOnDemand_mark_demands was p
    rw [Part.drumHasJob, demands, Part.jobDemands, (actOnDemand_frame p was).2.2.1]
    exact jobless
  rw [tidyServo_jobless still, ← actOnDemand_unmarked]
  exact tidyServo_actOnDemand was nofun

/-! ## The end of a STORE -/

/-- The slip of a STORE whose scanner has reached IDLE (R41, R148). -/
def Job.storeSlip (j : Job) : Slip := ⟨j.spec, j.firstCause.getD .stored, j.tally⟩

/-- The servo after the end of a STORE: its demand is withdrawn, and HOLD_SPIN may carry the speed on (R41). -/
def Servo.freed (v : Servo) (j : Job) : Servo :=
  { v with
    demands := { v.demands with
      scanner := none,
      carry := if j.spec.holdSpin = true ∧ (j.firstCause.getD .stored).isCompletion = true then some ⟨j.spec.speed, false⟩
        else v.demands.carry },
    lockRunning := false }

/-- The part after the end of a STORE whose scanner has reached IDLE, before the servo acts. -/
def Part.storeEnded (p : Part) (j : Job) : Part :=
  { p with disp := p.disp.ended .scan j.storeSlip, servo := p.servo.freed j,
           scanner := { p.scanner with state := .idle, homing := false, armed := false, reverse := false } }

theorem offerStored_returned (store : j.spec.kind = .store) :
    offerStored j.returned = { j.returned with firstCause := some (j.firstCause.getD .stored) } := by
  cases first : j.firstCause <;> simp [offerStored, Job.returned, store, first]

theorem finishJobs_scannerIdle (job : p.disp.scanJob = some j) (store : j.spec.kind = .store)
    (scans : j.scannerSide = ⟨true, false⟩) (unsent : j.senderSide.active = false) (running : p.jobOver .relay = false) :
    finishJobs (scannerIdle p) = p.storeEnded j := by
  have idle : scannerIdle p = { p.withScan { j.returned with firstCause := some (j.firstCause.getD .stored) } with
      scanner := { p.scanner with state := .idle, homing := false, armed := false, reverse := false },
      servo := { p.servo with demands := { p.servo.demands with scanner := none }, lockRunning := false } } := by
    rw [← offerStored_returned store]
    simp only [scannerIdle, Part.onJob, Part.onDisp, Part.onServo, Part.onScanner, job, Option.map_some]
    rfl
  have ended : ({ j.returned with firstCause := some (j.firstCause.getD .stored) } : Job).over = true := by
    simp [Job.over, Job.returned, Side.over, scans, unsent]
  have others (other : JobSlot) (ne : other ≠ .scan) : (scannerIdle p).jobOver other = false := by
    cases other
    · exact absurd rfl ne
    · rw [idle]
      exact running
  rw [finishJobs_of_one others, idle, finishJob_of_over (slot := .scan) rfl ended]
  by_cases carries : j.spec.holdSpin = true ∧ (j.firstCause.getD .stored).isCompletion = true
  · refine (if_pos carries).trans ?_
    simp only [Part.storeEnded, Servo.freed, if_pos carries]
    rfl
  · refine (if_neg carries).trans ?_
    simp only [Part.storeEnded, Servo.freed, if_neg carries]
    rfl

theorem driven_servo_congr (servo : q.servo = p.servo) (settings : q.settings = p.settings)
    (entered : q.scanner.enteredScan = p.scanner.enteredScan) :
    (driven was q).servo = (driven was p).servo := by
  simp only [driven, servo, settings, entered]
  split
  · rfl
  · split
    · split <;> rfl
    · split <;> rfl

theorem grantIdle_scanner_of_shut (shut : p.scanner.openLine = none) : (grantIdle p).scanner = p.scanner := by
  rcases grantIdle_cases p with same | ⟨r, -, wanted, granted⟩
  · rw [same]
  · rw [granted]
    cases r
    case scanner => simp [Part.wants, shut] at wanted
    all_goals rfl

/-- While a job of the scanner runs no record that starts one passes the gate (R32), and no change is left open. -/
theorem unsettled_of_scanJob (settled : p.settled = true) (job : p.disp.scanJob = some j) : p.servo.unsettled = none := by
  refine unsettled_of_none_due settled ?_
  cases record : p.disp.pendingJob with
  | none => exact awaitsDispatch_of_no_record record
  | some r =>
    suffices waits : (r.startsScanner && p.gatePasses r) = false by simp [Part.awaitsDispatch, record, waits]
    refine Decidable.byContradiction fun starts => ?_
    obtain ⟨valid, scans⟩ : r.idleRecord = false ∧ (r.spec.kind = .live ∨ r.spec.kind = .store) := by
      simp [PendingJob.startsScanner] at starts
      obtain ⟨valid, scans, -⟩ := starts
      exact ⟨valid, scans⟩
    have taken : p.resourcesFree r.spec.kind = false := by
      rcases scans with kind | kind <;> simp [Part.resourcesFree, kind, job]
    simp [PendingJob.idleRecord] at valid
    simp [Part.gatePasses, taken, valid] at starts

/-- At the end of a STORE the servo leaves the change to the dispatch that is due, or acts on it (R33, R52). -/
theorem settleDemand_storeEnded (found : before.servo.unsettled = none) (servo : x.servo = before.servo.freed j)
    (settings : x.settings = before.settings) (entered : x.scanner.enteredScan = before.scanner.enteredScan)
    (jobless : x.drumHasJob = false) :
    let v : Servo := { before.servo.freed j with speedFaultMark := false }
    (settleDemand x.awaitsDispatch before x).servo =
      if x.awaitsDispatch = true then
        { v with unsettled := if before.servo.demands.inForce = v.demands.inForce then none
                   else some before.servo.demands.inForce }
      else (driven before.servo.demands.inForce { before with servo := v }).servo := by
  have was : foundBefore before x = before.servo.demands.inForce := by
    rw [foundBefore, servo]
    simp [Servo.freed, found]
  rw [settleDemand, was]
  cases x.awaitsDispatch with
  | false =>
    simp only [Bool.false_eq_true, if_false]
    rw [tidyServo_actOnDemand_jobless jobless]
    exact driven_servo_congr (by rw [Part.unmarked, Part.onServo, servo]) settings entered
  | true =>
    simp only [if_true]
    have left : (leaveDemand before.servo.demands.inForce x).drumHasJob = false := jobless
    rw [tidyServo_jobless left, tidyServo_of_marked fun mark => absurd mark Bool.false_ne_true]
    simp only [Part.unmarked, leaveDemand, Part.onServo, servo, Servo.freed, ite_self] <;> rfl

theorem settings_of_loader (same : q.loader = p.loader) : q.settings = p.settings := by
  rw [Part.settings, Part.settings, same]

theorem awaitsDispatch_of_gate (disp : q.disp = p.disp) (device : q.loader.device = p.loader.device)
    (turns : p.servo.drum.driven = true) (due : q.awaitsDispatch = true) : p.awaitsDispatch = true := by
  have gate := (Bool.and_eq_true_iff.mp due).2
  rw [← Part.awaitsDispatch_congr (q := { q with servo := { q.servo with drum := p.servo.drum } }) disp device rfl]
  exact Bool.and_eq_true_iff.mpr ⟨turns, gate⟩

/-- The event at which the scanner of a STORE reaches IDLE (R41, R52, R148). -/
theorem closeEvent_storeEnded (settled : before.settled = true) (job : before.disp.scanJob = some j)
    (finished : finishJobs q = p.storeEnded k)
    (disp : p.disp = { before.disp with scanJob := some k }) (servo : p.servo = before.servo)
    (loader : p.loader = before.loader) (shut : p.scanner.openLine = none)
    (entered : p.scanner.enteredScan = before.scanner.enteredScan) :
    let v : Servo := { before.servo.freed k with speedFaultMark := false }
    let t := closeEvent before q
    t.disp = before.disp.ended .scan k.storeSlip ∧
      t.scanner = { p.scanner with state := .idle, homing := false, armed := false, reverse := false } ∧
      t.servo =
        if before.servo.drum.driven = true ∧ t.awaitsDispatch = true then
          { v with unsettled := if before.servo.demands.inForce = v.demands.inForce then none
                     else some before.servo.demands.inForce }
        else (driven before.servo.demands.inForce { before with servo := v }).servo := by
  intro v t
  have found := unsettled_of_scanJob settled job
  have disp_t : t.disp = (p.storeEnded k).disp := (closeEvent_disp before q).trans (by rw [finished])
  have loader_q : q.loader = before.loader := by
    have same := congrArg Part.loader finished
    have kept : (finishJobs q).loader = q.loader := by simp
    exact kept.symm.trans (same.trans loader)
  have device_t : t.loader.device = (p.storeEnded k).loader.device :=
    congrArg Loader.device ((show t.loader = q.loader by simp [t]).trans (loader_q.trans loader.symm))
  have servo_x : (p.storeEnded k).servo = before.servo.freed k := by rw [← servo]; rfl
  have servo_t : t.servo = (settleDemand (p.storeEnded k).awaitsDispatch before (p.storeEnded k)).servo :=
    (closeEvent_servo before q).trans (by rw [finished])
  rw [settleDemand_storeEnded found servo_x (settings_of_loader (p := before) (q := p.storeEnded k) loader) entered (Bool.and_false _)] at servo_t
  refine ⟨?_, ?_, ?_⟩
  · rw [disp_t, Part.storeEnded, disp]
    rfl
  · have scanner := settleDemand_scanner (p := p.storeEnded k) (p.storeEnded k).awaitsDispatch before rfl
    have closed : t = grantIdle (markChanges before (settleDemand (p.storeEnded k).awaitsDispatch before (p.storeEnded k))) := by
      rw [← finished]
      rfl
    have marked : (markChanges before (settleDemand (p.storeEnded k).awaitsDispatch before (p.storeEnded k))).scanner =
        (p.storeEnded k).scanner := by simpa using scanner
    rw [closed, grantIdle_scanner_of_shut (by rw [marked]; exact shut)]
    exact marked
  · cases due : (p.storeEnded k).awaitsDispatch with
    | true =>
      simp only [due, if_true] at servo_t
      have drum : t.servo.drum = (p.storeEnded k).servo.drum := by rw [servo_t, servo_x]
      have due_t : t.awaitsDispatch = true := (Part.awaitsDispatch_congr disp_t device_t drum).trans due
      have driven_t : before.servo.drum.driven = true := by
        have turns := (Bool.and_eq_true_iff.mp due).1
        rwa [servo_x] at turns
      rw [if_pos ⟨driven_t, due_t⟩]
      exact servo_t
    | false =>
      simp only [due, Bool.false_eq_true, if_false] at servo_t
      refine servo_t.trans (if_neg fun h => ?_).symm
      have gate := awaitsDispatch_of_gate disp_t device_t (by rw [servo_x]; exact h.1) h.2
      rw [due] at gate
      cases gate

/-- The close of an event at which the scanner of a STORE reaches IDLE. -/
theorem closeEvent_scannerIdle (settled : before.settled = true) (job : before.disp.scanJob = some j)
    (store : k.spec.kind = .store) (scans : k.scannerSide = ⟨true, false⟩) (unsent : k.senderSide.active = false)
    (disp : p.disp = { before.disp with scanJob := some k }) (servo : p.servo = before.servo)
    (loader : p.loader = before.loader) (shut : p.scanner.openLine = none)
    (entered : p.scanner.enteredScan = before.scanner.enteredScan) :
    let v : Servo := { before.servo.freed k with speedFaultMark := false }
    let t := closeEvent before (scannerIdle p)
    t.disp = before.disp.ended .scan k.storeSlip ∧
      t.scanner = { p.scanner with state := .idle, homing := false, armed := false, reverse := false } ∧
      t.servo =
        if before.servo.drum.driven = true ∧ t.awaitsDispatch = true then
          { v with unsettled := if before.servo.demands.inForce = v.demands.inForce then none
                     else some before.servo.demands.inForce }
        else (driven before.servo.demands.inForce { before with servo := v }).servo := by
  have relay : p.jobOver .relay = false :=
    (jobOver_relay (p := before) (by rw [disp])).trans ((Part.settled_iff.mp settled).1 .relay)
  have finished := finishJobs_scannerIdle (by rw [disp]) store scans unsent relay
  exact closeEvent_storeEnded settled job finished disp servo loader shut entered

/-! ## The end of a homing -/

/-- The job of a homing that failed in HOMING (R87). -/
def Job.homeFaulted (j : Job) (line : Nat) : Job :=
  { j with firstCause := some .homeFault, tally := { j.tally with detail := some ⟨1, 1, line⟩, notHome := true } }

/-- The job of a homing that failed in RETURN (R104). -/
def Job.homeLate (j : Job) (line : Nat) : Job :=
  { j with tally := { j.tally.place .homeLate line with notHome := true } }

theorem onTally_scan (job : p.disp.scanJob = some j) (f : Tally → Tally) :
    p.onTally .scan f = p.withScan { j with tally := f j.tally } := onJob_scan job _

theorem enterReturn_faulted (job : p.disp.scanJob = some j) (faulted : j.firstCause = some .homeFault) :
    enterReturn p = scannerIdle { p.withScan { j with tally := { j.tally with notHome := true } } with
      scanner := { p.scanner with state := .back, lamp := false, armed := false, homing := false, position := none } } := by
  have faulty : (p.onScanner Scanner.toBack).homeFaulted = true := by
    simp [Part.homeFaulted, Part.onScanner, job, faulted]
  refine (if_pos faulty).trans (congrArg scannerIdle ?_)
  exact onTally_scan (p := (p.onScanner Scanner.toBack).onScanner fun c => { c with position := none }) job _

theorem failHoming_homing (homing : p.scanner.state = .homing) (job : p.disp.scanJob = some j)
    (free : j.firstCause = none) (scans : j.scannerSide = ⟨true, false⟩) (unsent : j.senderSide.active = false) :
    failHoming p = scannerIdle { p.withScan (j.homeFaulted p.scanner.line) with
      scanner := { p.scanner with state := .back, lamp := false, armed := false, homing := false, position := none } } := by
  have stays : switchToTimer j .homeFault p = p := by simp [switchToTimer, Cause.isDrumFault]
  have winds : offer .scan .homeFault .scanner p =
      windDownScanner (p.withScan { j with firstCause := some .homeFault, tally := { j.tally with detail := some ⟨1, 1, p.scanner.line⟩ } }) := by
    rw [offer_winds (slot := .scan) job free rfl stays, onJob_scan job,
      windDown_scanner (slot := .scan) rfl (by simp [Job.setFirst, Side.works, scans])
        (by simp [Job.setFirst, Side.works, unsent])]
    simp only [Part.stateFor, homing]
    rfl
  have returns : windDownScanner (p.withScan { j with firstCause := some .homeFault, tally := { j.tally with detail := some ⟨1, 1, p.scanner.line⟩ } }) =
      scannerIdle { p.withScan (j.homeFaulted p.scanner.line) with
        scanner := { p.scanner with state := .back, lamp := false, armed := false, homing := false, position := none } } := by
    simp only [windDownScanner, show (p.withScan _).scanner.state = .homing from homing]
    exact enterReturn_faulted (p := (p.withScan _).onScanner fun c => { c with position := none }) rfl rfl
  have offered := winds.trans returns
  refine (if_pos homing).trans ?_
  simp only [offered]
  exact if_neg nofun

theorem failHoming_back (back : p.scanner.state = .back) (job : p.disp.scanJob = some j) :
    failHoming p = scannerIdle { p.withScan (j.homeLate p.scanner.line) with
      scanner := { p.scanner with position := none } } := by
  have placed : offer .scan .homeLate .scanner p = p.onTally .scan fun t => t.place .homeLate p.scanner.line :=
    offer_placed rfl fun _ _ => rfl
  have late : failHoming p =
      scannerIdle ((setNotHome (offer .scan .homeLate .scanner p)).onScanner fun c => { c with position := none }) :=
    if_neg (by simp [back])
  rw [late, placed, onTally_scan job]
  rfl

section
variable {s : State}

theorem homeActive_run (placed : s.part.placed = true) (homing : s.part.scanner.homing = true) :
    exec .homeActive s =
      .next { s with part := closeEvent s.part (findHome (s.part.setPins { s.part.pins with home := true })) } := by
  have met : (s.part.setPins { s.part.pins with home := true }).placed = true ∧ s.part.scanner.homing = true :=
    ⟨placed, homing⟩
  exact congrArg (fun q => Host.Outcome.next { s with part := q }) (if_pos (Bool.and_eq_true_iff.mpr met))

theorem Part.with_scanJob (job : p.disp.scanJob = some j) : ({ p.disp with scanJob := some j } : Dispatcher) = p.disp := by
  rw [← job]

/-- Settles O44: in HOMING the scanner goes on or winds down, and in RETURN the job ends; the servo acts once. -/
theorem homingEndsFoundOrFailed : Obligations.HomingEndsFoundOrFailed := by
  intro s settled placed homing p pins c rest
  constructor
  · intro state
    have found : findHome (s.part.setPins pins) = enterWarmup ((s.part.setPins pins).onScanner fun c =>
        { c with position := some 0, homing := false, reverse := false }) := if_pos state
    refine ⟨_, homeActive_run placed homing, ?_, rfl, fun _ => rfl⟩
    rw [found]
    exact closeEvent_of_work settled rfl rfl rfl
  · intro j job store scans unsent shut carried servo ended
    refine ⟨fun state free due => ?_, fun state => ?_, fun state due => ?_⟩
    · refine answers_of_ready (ready := Part.homeDue) (f := failHoming) rfl
        (Bool.and_eq_true_iff.mpr ⟨homing, decide_eq_true due⟩) ?_
      obtain ⟨disp, scanner, acts⟩ := closeEvent_scannerIdle (k := j.homeFaulted c.line)
        (p := { s.part.withScan (j.homeFaulted c.line) with scanner :=
          { c with state := .back, lamp := false, armed := false, homing := false, position := none } })
        settled job store scans unsent rfl rfl rfl shut rfl
      rw [failHoming_homing state job free scans unsent]
      refine ⟨disp, scanner.trans ?_, acts⟩
      simp [rest, state]
    · refine ⟨_, homeActive_run placed homing, ?_⟩
      have found : findHome (s.part.setPins pins) =
          scannerIdle ((s.part.setPins pins).onScanner fun c => { c with position := some 0 }) :=
        if_neg (by rw [show (s.part.setPins pins).scanner.state = .back from state]; decide)
      obtain ⟨disp, scanner, acts⟩ := closeEvent_scannerIdle (k := j)
        (p := (s.part.setPins pins).onScanner fun c => { c with position := some 0 })
        settled job store scans unsent (Part.with_scanJob job).symm rfl rfl shut rfl
      rw [found]
      refine ⟨disp, scanner.trans ?_, acts⟩
      simp [rest, c, p, state]
    · refine answers_of_ready (ready := Part.homeDue) (f := failHoming) rfl
        (Bool.and_eq_true_iff.mpr ⟨homing, decide_eq_true due⟩) ?_
      obtain ⟨disp, scanner, acts⟩ := closeEvent_scannerIdle (k := j.homeLate c.line)
        (p := { s.part.withScan (j.homeLate c.line) with scanner := { c with position := none } })
        settled job store scans unsent rfl rfl rfl shut rfl
      rw [failHoming_back state job]
      refine ⟨disp, scanner.trans ?_, acts⟩
      simp [rest, state]

end

end

end Sys2Proof.Machine
end

section
/-! The stall (R58, R66, R67): the drum at rest, and DRUM_STALL at its job. -/

namespace Sys2Proof.Machine

open Sys2Proof.Claims (ends endsIn leaves answers driven lastFound toStop causedIn)

section
variable {p q x before : Part} {j k : Job} {was : Option Nat}

/-! ## The drum at rest -/

/-- The part with the drum STOPPED (R51, R76). -/
def Part.halted (p : Part) : Part :=
  { p with servo := { p.timedServo with drum := .stopped, reference := none, wraps := 0, period := 0 },
           scanner := p.disarmed, angle := { p.angle with schedule := none } }

theorem setDrum_stopped (turns : p.servo.drum ≠ .stopped) : setDrum .stopped p = p.halted := by
  have moved : setDrum .stopped p = enterStopped (if p.servo.drum = .locked
      then loseLock (p.onServo fun v => { v with drum := .stopped }) else p.onServo fun v => { v with drum := .stopped }) :=
    if_neg turns
  rw [moved]
  by_cases locked : p.servo.drum = .locked
  · rw [if_pos locked]
    cases timed : p.timesLock
    · have idle : (loseLock (p.onServo fun v => { v with drum := .stopped })) =
          (p.onServo fun v => { v with drum := .stopped }).onScanner fun c => { c with armed := false } :=
        if_neg (Bool.eq_false_iff.mp timed)
      rw [idle]
      simp only [Part.halted, Part.timedServo, Part.disarmed, timed, locked, enterStopped, Part.onServo, Part.onScanner,
        Part.onAngle, if_true, Bool.false_eq_true, and_false, if_false]
    · have starts : (loseLock (p.onServo fun v => { v with drum := .stopped })) =
          ((p.onServo fun v => { v with drum := .stopped }).onScanner fun c => { c with armed := false }).onServo fun v =>
            { v with lockTimer := 0, lockRunning := true } :=
        if_pos timed
      rw [starts]
      simp only [Part.halted, Part.timedServo, Part.disarmed, timed, locked, enterStopped, Part.onServo, Part.onScanner,
        Part.onAngle, if_true, and_self]
  · rw [if_neg locked]
    simp only [Part.halted, Part.timedServo, Part.disarmed, locked, false_and, if_false]
    rfl

/-- The part at a stall, before DRUM_STALL is offered (R67). -/
def Part.stalled (p : Part) : Part :=
  ({ p with
      servo := { p.timedServo with
        drum := .stopped, reference := none, wraps := 0, period := 0, duty := 0, nextDuty := 0, goodCount := 0,
        lockCount := 0, outsideCount := 0, faultCount := 0, lockRunning := false,
        demands := ⟨setAside p.servo.demands.scanner, setAside p.servo.demands.live, setAside p.servo.demands.carry, none⟩ },
      scanner := p.disarmed,
      angle := { p.angle with schedule := none } } : Part).raise .drum

theorem takeStall_eq (turns : p.servo.drum ≠ .stopped) : takeStall p =
    if p.drumHasJob = true then offer .scan .drumStall .scanner p.stalled else p.stalled := by
  simp only [takeStall, setDrum_stopped (p := setDuty 0 (clearRuns p)) turns]
  rfl

theorem demandSpeed_setAside (d : Option Demand) : demandSpeed (setAside d) = none := by
  cases d <;> rfl

theorem stalled_inForce (p : Part) : p.stalled.servo.demands.inForce = none := by
  have demands : p.stalled.servo.demands = ⟨setAside p.servo.demands.scanner, setAside p.servo.demands.live,
    setAside p.servo.demands.carry, none⟩ := rfl
  simp only [demands, Demands.inForce, demandSpeed_setAside]
  rfl

/-- With no demand in force a STOPPED drum stays as it is (R53). -/
theorem driven_stopped (none_in_force : p.servo.demands.inForce = none) (stopped : p.servo.drum = .stopped) :
    driven was p = p.found := by
  rw [driven, none_in_force]
  by_cases same : was = none
  · simp only [if_pos same, stopped, reduceCtorEq, if_false, Part.found, Part.onServo]
  · simp only [if_neg same, stopped, true_or, if_true, Part.found, Part.onServo]

/-- A stall of a drum without a job (R67). -/
theorem closeEvent_stalled (settled : p.settled = true) (jobless : p.drumHasJob = false) :
    closeEvent p p.stalled = ends p p.stalled.found := by
  obtain ⟨running, -, marked, -, -⟩ := Part.settled_iff.mp settled
  have marked_still : p.stalled.servo.speedFaultMark = true → p.stalled.drumHasJob = true := by
    intro mark
    rw [marked mark] at jobless
    cases jobless
  have event := closeEvent_acts (q := p.stalled) (before := p) running (not_driven_of_stopped rfl) marked_still
  rw [event, driven_stopped (stalled_inForce p) rfl]

/-! ## DRUM_STALL at a job -/

/-- Causes may have been raised from `p` to `q`, and none cleared (R164). -/
def Part.raises (p q : Part) : Prop := ∃ b : Byte, q.status.pending = p.status.pending ||| b

theorem Part.raises_of_status (same : q.status = p.status) : p.raises q := ⟨0, by rw [same]; simp⟩

theorem Part.raises_trans (first : p.raises q) (second : q.raises x) : p.raises x := by
  obtain ⟨b, first⟩ := first
  obtain ⟨c, second⟩ := second
  exact ⟨b ||| c, by rw [second, first, BitVec.or_assoc]⟩

theorem raises_raise (p : Part) (c : Attention) : p.raises (p.raise c) := ⟨c.bit, rfl⟩

theorem raises_releaseHand (p : Part) : p.raises (releaseHand p) := by
  rw [releaseHand_eq]
  unfold Claims.released
  cases p.sender.hand with
  | none => exact Part.raises_of_status rfl
  | some h =>
    simp only
    split
    case h_4 => exact raises_raise _ .feedFree
    all_goals exact Part.raises_of_status rfl

theorem raises_enterStop (p : Part) : p.raises (enterStop p) :=
  Part.raises_trans (raises_releaseHand p) (Part.raises_of_status rfl)

theorem raises_senderIdle (p : Part) : p.raises (senderIdle p) :=
  Part.raises_trans (raises_releaseHand p) (Part.raises_of_status (by simp [senderIdle]))

theorem raises_windDown (slot : JobSlot) (c : Cause) (p : Part) : p.raises (windDown slot c p) := by
  have sender (q : Part) : q.raises (windDownSender c q) := by
    unfold windDownSender
    cases q.sender.state <;> simp only
    case start | phasing | image =>
      split
      · exact raises_senderIdle q
      · exact raises_enterStop q
    case calling | standby | awaitReceipt => exact raises_senderIdle q
    all_goals exact Part.raises_of_status rfl
  cases job : p.jobAt slot with
  | none => exact Part.raises_of_status (by simp only [windDown, job])
  | some j =>
    have scanner : p.raises (if j.scannerSide.works then windDownScanner p else p) :=
      Part.raises_of_status (by split <;> simp)
    simp only [windDown, job]
    split
    · exact Part.raises_trans scanner (sender _)
    · exact scanner

theorem raises_offer (slot : JobSlot) (c : Cause) (named : Named) (p : Part) : p.raises (offer slot c named p) := by
  cases job : p.jobAt slot with
  | none => exact Part.raises_of_status (by simp only [offer, job])
  | some j =>
    simp only [offer, job]
    split
    · exact Part.raises_of_status (by simp)
    · exact Part.raises_trans (Part.raises_of_status (by simp)) (raises_windDown _ _ _)

theorem raises_closeEvent (before p : Part) : p.raises (closeEvent before p) := by
  have marks (q : Part) : q.raises (markChanges before q) := by
    rcases markChanges_cases before q with same | dirty
    · exact Part.raises_of_status (by rw [same])
    · exact ⟨0, by rw [dirty]; simp⟩
  have settles : p.raises (settleDemand (finishJobs p).awaitsDispatch before (finishJobs p)) :=
    Part.raises_of_status (by simp)
  exact Part.raises_trans settles (Part.raises_trans (marks _) (Part.raises_of_status (by simp [closeEvent])))

theorem windDownScanner_relayJob (p : Part) : (windDownScanner p).disp.relayJob = p.disp.relayJob := by
  have returns (q : Part) : (enterReturn q).disp.relayJob = q.disp.relayJob := by
    simp only [enterReturn]
    split
    · rfl
    · split
      · split <;> rfl
      · rfl
  unfold windDownScanner
  cases p.scanner.state with
  | homing => exact returns _
  | warmup | waitLock => exact returns p
  | scan => exact (returns _).trans (by simp)
  | back | idle => rfl

/-- A cause of the job of the scanner leaves the RELAY, where its wind-down has no sender side or no RELAY runs. -/
theorem offer_relayJob {c : Cause} {named : Named} (job : p.disp.scanJob = some j)
    (alone : p.disp.relayJob = none ∨ j.senderSide.active = false) :
    (offer .scan c named p).disp.relayJob = p.disp.relayJob := by
  rcases alone with none_sends | unsent
  · have kept : (offer .scan c named p).disp.outline = p.disp.outline := Part.disp_of_standing (by simp)
    have jobs : (offer .scan c named p).disp.relayJob.map Job.outline = p.disp.relayJob.map Job.outline :=
      congrArg (fun o => o.2.2) kept
    rw [none_sends] at jobs ⊢
    simpa using jobs
  · simp only [offer, Part.jobAt, job]
    split
    · simp [placeEvent, Part.onTally, Part.onJob, Part.onDisp]
    · have scans (q : Part) (k : Job) (at_k : q.disp.scanJob = some k) (sides : k.senderSide = j.senderSide) :
          (windDown .scan c q).disp.relayJob = q.disp.relayJob := by
        have idle : k.senderSide.works = false := by simp [Side.works, sides, unsent]
        simp only [windDown, Part.jobAt, at_k, idle, Bool.false_eq_true, if_false]
        split
        · exact windDownScanner_relayJob q
        · rfl
      rw [scans _ (j.setFirst c _) (by simp [Part.onJob, Part.onDisp, job]; rfl) rfl]
      simp [Part.onJob, Part.onDisp]

/-- A job that ends without completion carries no speed on (R41). -/
theorem finishJob_servo_of_failed {slot : JobSlot}
    (failed : ∀ j, p.jobAt slot = some j → j.over = true → j.result.isCompletion = false) :
    (finishJob slot p).servo = p.servo := by
  cases ends : p.jobOver slot with
  | false => rw [finishJob_running slot ends]
  | true =>
    obtain ⟨j, job, finished⟩ := Part.jobOver_iff.mp ends
    rw [finishJob_of_over job finished, placeCarry, if_neg (by simp [failed j job finished])]
    simp

/-- The close of an event at a drum at rest with no demand in force. -/
theorem settleDemand_stopped (stopped : p.servo.drum = .stopped) (none_in_force : p.servo.demands.inForce = none) :
    ∃ v : Servo, settleDemand p.awaitsDispatch before p = { p with servo := v } ∧ v.drum = .stopped ∧
      v.duty = p.servo.duty ∧ v.period = p.servo.period ∧ v.demands = p.servo.demands := by
  have acts : actOnDemand (foundBefore before p) p = p.found := by
    by_cases same : foundBefore before p = p.servo.demands.inForce
    · exact if_pos same
    · have drops : actOnDemand (foundBefore before p) p =
          match p.servo.demands.inForce with
          | some speed => takeTarget speed p.found
          | none => dropTarget p.found := if_neg same
      rw [drops, none_in_force]
      exact (dropTarget_eq p.found).trans (if_pos (.inl stopped))
  have tidied (q : Part) : ∃ v : Servo, tidyServo q = { q with servo := v } ∧ v.drum = q.servo.drum ∧
      v.duty = q.servo.duty ∧ v.period = q.servo.period ∧ v.demands = q.servo.demands := by
    simp only [tidyServo]
    split <;> split <;> exact ⟨_, rfl, rfl, rfl, rfl, rfl⟩
  obtain ⟨v, servo, drum, duty, period, demands⟩ := tidied p.found
  refine ⟨v, ?_, drum.trans stopped, duty, period, demands⟩
  rw [settleDemand, not_driven_of_stopped stopped]
  simp only [Bool.false_eq_true, if_false]
  rw [acts, servo]
  rfl

/-- What stands at the end of a stall with DRUM_STALL as the first cause (R67). -/
theorem closeEvent_drumStall (settled : p.settled = true) (job : p.disp.scanJob = some j) (free : j.firstCause = none)
    (alone : p.disp.relayJob = none ∨ j.senderSide.active = false) :
    let t := closeEvent p (offer .scan .drumStall .scanner p.stalled)
    t.servo.drum = .stopped ∧ t.servo.duty = 0 ∧ t.servo.period = 0 ∧ t.angle.schedule = none ∧
      t.servo.demands.inForce = none := by
  intro t
  obtain ⟨scanner, live, running, scanner_of, live_of, -, servo⟩ := withdraws_offer .scan .drumStall .scanner p.stalled
  have relay : (offer .scan .drumStall .scanner p.stalled).jobOver .relay = false :=
    (jobOver_relay (p := p) (offer_relayJob (p := p.stalled) job alone)).trans ((Part.settled_iff.mp settled).1 .relay)
  have finished := finishJobs_of_one (slot := .scan) (q := offer .scan .drumStall .scanner p.stalled) fun other ne => by
    cases other
    · exact absurd rfl ne
    · exact relay
  obtain ⟨k, at_k, -, first, -⟩ := offer_causes (p := p.stalled) (slot := .scan) (c := .drumStall) (named := .scanner)
    job free rfl rfl
  have failed : ∀ i, (offer .scan .drumStall .scanner p.stalled).jobAt .scan = some i → i.over = true →
      i.result.isCompletion = false := by
    intro i at_i _
    obtain rfl : k = i := Option.some.inj (at_k.symm.trans at_i)
    rw [Job.result, first]
    rfl
  have servo_x : (finishJobs (offer .scan .drumStall .scanner p.stalled)).servo =
      (offer .scan .drumStall .scanner p.stalled).servo := by rw [finished, finishJob_servo_of_failed failed]
  have none_in_force : (finishJobs (offer .scan .drumStall .scanner p.stalled)).servo.demands.inForce = none := by
    have scanner_none : demandSpeed scanner = none := by
      rcases scanner_of with rfl | rfl
      · exact demandSpeed_setAside _
      · rfl
    have live_none : demandSpeed live = none := by
      rcases live_of with rfl | rfl
      · exact demandSpeed_setAside _
      · rfl
    rw [servo_x, servo]
    have carry : demandSpeed p.stalled.servo.demands.carry = none := demandSpeed_setAside p.servo.demands.carry
    have hold : demandSpeed p.stalled.servo.demands.hold = none := rfl
    simp [Demands.inForce, scanner_none, live_none, carry, hold]
  have stopped : (finishJobs (offer .scan .drumStall .scanner p.stalled)).servo.drum = .stopped := by
    rw [servo_x, servo]
    rfl
  obtain ⟨v, acts, drum, duty, period, demands⟩ := settleDemand_stopped (before := p) stopped none_in_force
  have servo_t : t.servo = v := by rw [closeEvent_servo, acts]
  have angle_t : t.angle = p.stalled.angle := by simp [t, closeEvent, acts]
  refine ⟨by rw [servo_t, drum], ?_, ?_, by rw [angle_t]; rfl, by rw [servo_t, demands, none_in_force]⟩
  · rw [servo_t, duty, servo_x, servo]
    rfl
  · rw [servo_t, period, servo_x, servo]
    rfl

section
variable {s : State}

theorem timedServo_of_unlocked (unlocked : p.servo.drum ≠ .locked) : p.timedServo = p.servo := by
  rw [Part.timedServo, if_neg fun h => unlocked h.1, if_neg fun h => unlocked h.1]

theorem disarmed_names (p : Part) : p.disarmed.state = p.scanner.state ∧ p.disarmed.line = p.scanner.line := by
  unfold Part.disarmed
  split <;> exact ⟨rfl, rfl⟩

/-- What a DRUM_STALL records is the state and the line of the scanner at the stall (R38). -/
theorem causedAt_drumStall (job : p.disp.scanJob = some j) (free : j.firstCause = none) :
    (offer .scan .drumStall .scanner p.stalled).causedAt .scan j.spec .drumStall
      (some ⟨1, p.scanner.state.code, p.scanner.line⟩) := by
  obtain ⟨state, line⟩ := disarmed_names p
  have caused := offer_causes (p := p.stalled) (slot := .scan) (c := .drumStall) (named := .scanner) job free rfl rfl
  rw [← state, ← line]
  exact caused

theorem raised_bit (x b m : Byte) : (x ||| m ||| b) &&& m = m := by
  ext i
  simp
  grind

theorem pending_drum (p : Part) :
    (closeEvent p (offer .scan .drumStall .scanner p.stalled)).status.pending &&& Attention.drum.bit ≠ 0 := by
  obtain ⟨b, pending⟩ := Part.raises_trans (raises_offer .scan .drumStall .scanner p.stalled) (raises_closeEvent p _)
  have raised : p.stalled.status.pending = p.status.pending ||| Attention.drum.bit := rfl
  rw [pending, raised, raised_bit]
  decide

/-- The part of a LIVE whose sender has been moved to the line timer (R40, R80). -/
def Part.onLineTimer (p : Part) (speed : Nat) : Part :=
  { p with sender := { p.sender with onTimer := true }, timer := ⟨some .live, Config.nominalPeriod speed, 0, false, 0⟩ }

theorem switchToTimer_stalled (live : j.spec.kind = .live) (sending : p.sender.state.toneOn = true)
    (drum : p.sender.onTimer = false) :
    switchToTimer j .drumStall p.stalled = p.stalled.onLineTimer j.spec.speed := by
  have moves : Cause.isDrumFault .drumStall = true ∧ j.spec.kind = .live ∧ p.stalled.sender.state.toneOn = true ∧
      ¬ p.stalled.sender.onTimer = true := ⟨rfl, live, sending, by rw [show p.stalled.sender.onTimer = _ from drum]; decide⟩
  exact if_pos moves

theorem toStop_sender_congr (settings : q.settings = p.settings) (derived : q.derived = p.derived)
    (sender : q.sender = { p.sender with onTimer := true }) :
    (toStop q).sender = { (toStop p).sender with onTimer := true } := by
  have hand : (Claims.released q).sender = { (Claims.released p).sender with onTimer := true } := by
    unfold Claims.released
    rw [show q.sender.hand = p.sender.hand by rw [sender]]
    cases p.sender.hand with
    | none => exact sender
    | some h =>
      simp only [sender, settings]
      cases h.kind <;> cases h.ring <;> rfl
  simp only [toStop, hand, derived]

/-- DRUM_STALL as the first cause of a LIVE that sends: on the line timer, and to STOP (R39, R40). -/
theorem offer_stalled_free (job : p.disp.scanJob = some j) (free : j.firstCause = none)
    (sends : j.senderSide = ⟨true, false⟩) (moves : switchToTimer j .drumStall p.stalled = p.stalled.onLineTimer j.spec.speed)
    (state : p.sender.state = .start ∨ p.sender.state = .phasing ∨ p.sender.state = .image ∨ p.sender.state = .stop) :
    (offer .scan .drumStall .scanner p.stalled).timer = ⟨some .live, Config.nominalPeriod j.spec.speed, 0, false, 0⟩ ∧
      (offer .scan .drumStall .scanner p.stalled).sender =
        { (if p.sender.state = .stop then p else toStop p).sender with onTimer := true } := by
  let y := (p.stalled.onLineTimer j.spec.speed).withScan
    (j.setFirst .drumStall ⟨1, p.stalled.scanner.state.code, p.stalled.scanner.line⟩)
  let w := if j.scannerSide.works then windDownScanner y else y
  have offered : offer .scan .drumStall .scanner p.stalled = windDownSender .drumStall w := by
    have y_eq : (p.stalled.onLineTimer j.spec.speed).onJob .scan
        (fun j => j.setFirst .drumStall ⟨1, p.stalled.scanner.state.code, p.stalled.scanner.line⟩) = y :=
      onJob_scan (p := p.stalled.onLineTimer j.spec.speed) job _
    have first : offer .scan .drumStall .scanner p.stalled = windDown .scan .drumStall y := by
      rw [← y_eq]
      simp only [offer, show p.stalled.jobAt .scan = some j from job, moves, free]
      exact if_neg nofun
    have at_y : y.jobAt .scan = some (j.setFirst .drumStall ⟨1, p.stalled.scanner.state.code, p.stalled.scanner.line⟩) := rfl
    have works : (j.setFirst .drumStall ⟨1, p.stalled.scanner.state.code, p.stalled.scanner.line⟩).senderSide.works = true := by
      rw [Job.setFirst, sends]
      rfl
    rw [first, windDown, at_y]
    exact if_pos works
  have timer : w.timer = ⟨some .live, Config.nominalPeriod j.spec.speed, 0, false, 0⟩ := by
    have kept : w.timer = y.timer := by simp only [w]; split <;> simp
    exact kept
  have sender : w.sender = { p.sender with onTimer := true } := by
    have kept : w.sender = y.sender := by simp only [w]; split <;> simp
    exact kept
  have loader : w.loader = p.loader := by
    have kept : w.loader = y.loader := by simp only [w]; split <;> simp
    exact kept
  rw [offered]
  by_cases stop : p.sender.state = .stop
  · have stays : windDownSender .drumStall w = w := by simp only [windDownSender, sender, stop]
    rw [stays, if_pos stop]
    exact ⟨timer, sender⟩
  · have stops : windDownSender .drumStall w = toStop w := by
      rw [windDownSender_stop ?_ (by decide), enterStop_eq]
      rw [sender]
      rcases state with state | state | state | state
      · exact .inl state
      · exact .inr (.inl state)
      · exact .inr (.inr state)
      · exact absurd state stop
    rw [stops, if_neg stop]
    refine ⟨?_, toStop_sender_congr (settings_of_loader loader) (by rw [Part.derived, Part.derived, loader]) sender⟩
    rw [← timer, ← enterStop_eq]
    simp

theorem offer_stalled_late (job : p.disp.scanJob = some j) (late : j.firstCause.isSome = true)
    (moves : switchToTimer j .drumStall p.stalled = p.stalled.onLineTimer j.spec.speed) :
    offer .scan .drumStall .scanner p.stalled =
      (p.stalled.onLineTimer j.spec.speed).withScan { j with tally := j.tally.place .drumStall p.scanner.line } := by
  have offered : offer .scan .drumStall .scanner p.stalled = (p.stalled.onLineTimer j.spec.speed).onTally .scan
      fun t => t.place .drumStall p.stalled.scanner.line := by
    simp only [offer, show p.stalled.jobAt .scan = some j from job, moves]
    exact if_pos (by simp [late])
  obtain ⟨-, line⟩ := disarmed_names p
  rw [offered, onTally_scan (p := p.stalled.onLineTimer j.spec.speed) job, ← line]
  rfl

theorem closeEvent_spindown (settled : p.settled = true) (spindown : p.servo.drum = .spindown) :
    closeEvent p p.halted = ends p p.halted := by
  obtain ⟨running, -, marked, -, -⟩ := Part.settled_iff.mp settled
  have found := unsettled_of_none_due settled (not_driven_of_spindown spindown)
  have event := closeEvent_acts (before := p) (q := p.halted) running (not_driven_of_stopped rfl) marked
  have was : foundBefore p p.halted = p.halted.servo.demands.inForce := by
    have still : p.halted.servo.unsettled = none := found
    rw [foundBefore, still]
    rfl
  rw [event, was, driven_same (p := p.halted) found nofun]

theorem stallTime_run {post : State → Prop} (turns : s.part.servo.drum ≠ .stopped)
    (due : s.part.derived.stallCount ≤ s.part.servo.quiet) (turning : s.part.servo.drum ≠ .spindown)
    (has : s.part.drumHasJob = true)
    (result : post { s with part := closeEvent s.part (offer .scan .drumStall .scanner s.part.stalled) }) :
    answers .stallTimeExpiry s post := by
  refine answers_of_ready (ready := Part.stallDue) (f := takeStallTime) rfl ?_ ?_
  · simp [Part.stallDue, turns, due]
  · rwa [takeStallTime, if_neg turning, takeStall_eq turns, if_pos has]

/-- Settles O46: at a stall nothing demands the drum, and the job of the drum is offered DRUM_STALL. -/
theorem stallTimeStopsTheDrum : Obligations.StallTimeStopsTheDrum := by
  intro s settled due p v
  refine ⟨fun spindown => ?_, fun turns jobless => ?_, fun turning turns j job has free alone => ?_,
    fun turning turns j job has live alone sends drum state => ?_⟩
  · refine leaves_of_ready (ready := Part.stallDue) (f := takeStallTime) rfl ?_ ?_
    · simp [Part.stallDue, show s.part.servo.drum = .spindown from spindown, due]
    · have unlocked : s.part.servo.drum ≠ .locked := by rw [show s.part.servo.drum = .spindown from spindown]; decide
      rw [takeStallTime, if_pos spindown, setDrum_stopped (by rw [show s.part.servo.drum = .spindown from spindown]; decide),
        closeEvent_spindown settled spindown]
      simp only [Part.halted, Part.timedServo, Part.disarmed, unlocked, false_and, if_false]
      rfl
  · have drums : s.part.servo.drum ≠ .stopped ∧ s.part.servo.drum ≠ .spindown := by
      rcases turns with drum | drum | ⟨drum, -⟩ <;> simp [show s.part.servo.drum = _ from drum]
    have untimed : s.part.timedServo = s.part.servo := by
      rcases turns with drum | drum | ⟨-, undemanded⟩
      · exact timedServo_of_unlocked (by rw [show s.part.servo.drum = _ from drum]; decide)
      · exact timedServo_of_unlocked (by rw [show s.part.servo.drum = _ from drum]; decide)
      · exact timedServo_of_none undemanded
    refine leaves_of_ready (ready := Part.stallDue) (f := takeStallTime) rfl ?_ ?_
    · simp [Part.stallDue, drums.1, due]
    · rw [takeStallTime, if_neg drums.2, takeStall_eq drums.1, if_neg (by simp [show s.part.drumHasJob = false from jobless]),
        closeEvent_stalled settled jobless]
      simp only [Part.stalled, untimed]
      rfl
  · refine stallTime_run turns due turning has ?_
    obtain ⟨drum, duty, period, schedule, none_in_force⟩ := closeEvent_drumStall settled job free alone
    exact ⟨drum, duty, period, schedule, pending_drum s.part, none_in_force,
      causedIn_closeEvent s.part (causedAt_drumStall job free)⟩
  · refine stallTime_run turns due turning has ?_
    have sending : s.part.sender.state.toneOn = true := by
      rcases state with state | state | state | state <;> rw [state] <;> rfl
    have moves := switchToTimer_stalled (p := s.part) live sending drum
    obtain ⟨timer, sender⟩ := closeEvent_frame s.part (offer .scan .drumStall .scanner s.part.stalled)
    by_cases first : j.firstCause = none
    · have winds := offer_stalled_free (p := s.part) job first sends moves state
      refine ⟨timer.trans winds.1, sender.trans (winds.2.trans ?_), ?_⟩
      · simp [p, first]
      · rw [if_pos first]
        exact causedIn_closeEvent s.part (causedAt_drumStall job first)
    · have late := offer_stalled_late (p := s.part) job (Option.isSome_iff_ne_none.mpr first) moves
      refine ⟨timer.trans (by rw [late]; rfl), sender.trans ?_, ?_⟩
      · rw [late, if_neg fun stops => first stops.1]
        rfl
      · have over_of (slot : JobSlot) : (offer .scan .drumStall .scanner s.part.stalled).jobOver slot = false := by
          rw [late]
          cases slot with
          | scan =>
            have running := (Part.settled_iff.mp settled).1 .scan
            simp only [Part.jobOver, Part.jobAt, show s.part.disp.scanJob = some j from job] at running
            exact running
          | relay => exact (Part.settled_iff.mp settled).1 .relay
        rw [if_neg first, closeEvent_disp, finishJobs_of_running over_of, late]
        rfl

end

end

end Sys2Proof.Machine
end

section
/-! The close of a line (R96 to R98, R100). -/

namespace Sys2Proof.Machine

open Sys2Proof.Claims (sameBut withdrawn returning)

section
variable {p q : Part} {j : Job} {l : OpenLine}

/-! ## A whole line -/

/-- The scanner after the commit of its line, with the steps that a carriage with lines to go owes (R96, R97, R100). -/
def Scanner.committed (c : Scanner) (cfg : Settings) (spec : JobSpec) : Scanner :=
  let steps := if c.line + 1 < spec.lines then cfg.stepsPerLine else 0
  { c with openLine := none, producer := (c.producer + 1) % cfg.scanSize, line := c.line + 1, stall := 0,
           position := c.position.map (· + steps), stepsOwed := c.stepsOwed + steps, stepTicks := 0,
           releaseCopy := if spec.kind = .live ∧ ¬ spec.keep then (c.producer + 1) % cfg.scanSize else c.releaseCopy }

/-- The counts of a job at a commit (R96, R100). -/
def Tally.committed (t : Tally) (spec : JobSpec) (noise : Nat) : Tally :=
  { t with noiseHeld := min 65535 (t.noiseHeld + noise),
           linesFresh := if spec.kind = .store then min 4095 (t.linesFresh + 1) else t.linesFresh,
           keepUsed := t.keepUsed || (decide (spec.kind = .live) && spec.keep) }

/-- The memory path with no line open (R91, R96). -/
def MemoryPath.unfilled (m : MemoryPath) : MemoryPath := { m with guards := { m.guards with scanFill := none } }

/-- The part after the commit of a line, before SCANLINE is raised. -/
def Part.committed (p : Part) (j : Job) (l : OpenLine) : Part :=
  { p.withScan { j with tally := j.tally.committed j.spec l.noise } with
    scanner := p.scanner.committed p.settings j.spec, path := p.path.unfilled }

theorem commitLine_eq (job : p.disp.scanJob = some j) : commitLine j l p =
    if j.spec.hostConsumes = true then (p.committed j l).raise .scanLine else p.committed j l := by
  have commits (f : Scanner → Scanner) : ((p.guardFill none).onScanner f).onTally .scan
      (fun t => { t with
        noiseHeld := satAdd 65535 t.noiseHeld l.noise,
        linesFresh := if j.spec.kind = .store then satAdd 4095 t.linesFresh 1 else t.linesFresh,
        keepUsed := t.keepUsed || (decide (j.spec.kind = .live) && j.spec.keep) }) =
      { p.withScan { j with tally := j.tally.committed j.spec l.noise } with
        scanner := f p.scanner, path := p.path.unfilled } :=
    onTally_scan (p := (p.guardFill none).onScanner f) job _
  simp only [commitLine, commits]
  rfl

/-- The part after a damaged line, before its stall is counted (R96, R98). -/
def Part.damaged (p : Part) (j : Job) : Part :=
  { p.withScan { j with tally := { j.tally with damaged := min 255 (j.tally.damaged + 1) } } with
    scanner := { p.scanner with openLine := none, fifo := [] }, path := (withdrawn .scanner p.path).unfilled }

theorem damageLine_eq (job : p.disp.scanJob = some j) : damageLine p = countScanStall (p.damaged j) := by
  have damages (x : Part) (scans : x.disp.scanJob = some j) : (x.onTally .scan fun t =>
      { t with damaged := satAdd 255 t.damaged 1 }) =
        x.withScan { j with tally := { j.tally with damaged := min 255 (j.tally.damaged + 1) } } := onTally_scan scans _
  rw [damageLine, withdraw_eq]
  exact congrArg countScanStall (damages ((Part.guardFill { p with path := withdrawn .scanner p.path } none).onScanner
    fun c => { c with openLine := none, fifo := [] }) job)

theorem closeLine_whole (opened : p.scanner.openLine = some l) (good : l.damaged = false)
    (written : l.written = 4 + p.settings.image) : closeLine true j p = commitLine j l p := by
  have whole : l.written = p.settings.slotBytes := written
  simp only [closeLine, opened]
  exact if_pos (by simp [good, whole])

theorem closeLine_hurt {whole : Bool} (opened : p.scanner.openLine = some l)
    (hurt : whole = false ∨ l.damaged = true ∨ l.written ≠ 4 + p.settings.image) : closeLine whole j p = damageLine p := by
  have hurt' : whole = false ∨ l.damaged = true ∨ ¬ l.written = p.settings.slotBytes := hurt
  simp only [closeLine, opened]
  refine if_neg fun good => ?_
  simp only [Bool.and_eq_true, Bool.not_eq_true', decide_eq_true_eq] at good
  rcases hurt' with cut | bad | short
  · simp [cut] at good
  · simp [bad] at good
  · exact short good.2

/-! ## A stalled scanner -/

/-- The part with one more revolution counted without a commit (R98). -/
def Part.stallCounted (p : Part) : Part :=
  { p with scanner := { p.scanner with stall := min 63 (p.scanner.stall + 1) } }

theorem countScanStall_below (below : min 63 (p.scanner.stall + 1) < p.settings.stallLimit) :
    countScanStall p = p.stallCounted := if_neg (Nat.not_le.mpr below)

theorem countScanStall_late (reached : p.settings.stallLimit ≤ min 63 (p.scanner.stall + 1))
    (job : p.disp.scanJob = some j) (store : j.spec.kind = .store) (late : j.firstCause ≠ none) :
    countScanStall p = p.stallCounted.withScan { j with tally := j.tally.place .scanStall p.scanner.line } := by
  have offered := offer_late_store (p := p.stallCounted) (c := .scanStall) (named := .scanner) job late store
  refine (if_pos reached).trans (offered.trans ?_)
  exact onTally_scan (p := p.stallCounted) job _

theorem countScanStall_first (reached : p.settings.stallLimit ≤ min 63 (p.scanner.stall + 1))
    (job : p.disp.scanJob = some j) (free : j.firstCause = none) (scans : j.scannerSide = ⟨true, false⟩)
    (unsent : j.senderSide.active = false) (away : p.pins.home = false) :
    countScanStall p = returning (p.stallCounted.withScan
      { j with firstCause := some .scanStall,
               tally := { j.tally with detail := some ⟨1, p.scanner.state.code, p.scanner.line⟩ } }) := by
  have stays : switchToTimer j .scanStall p.stallCounted = p.stallCounted := by simp [switchToTimer, Cause.isDrumFault]
  refine (if_pos reached).trans ?_
  refine (offer_winds (p := p.stallCounted) (slot := .scan) job free rfl stays).trans ?_
  rw [onJob_scan (p := p.stallCounted) job]
  rw [windDown_scanner (slot := .scan) rfl (by simp [Job.setFirst, Side.works, scans])
    (by simp [Job.setFirst, Side.works, unsent])]
  exact windDownScanner_returning (p := p.stallCounted.withScan _) away (by simp [Part.homeFaulted, Part.withScan, Job.setFirst])

/-- Settles O51: a whole line is committed, and any other one is damaged, with the stall judged after it. -/
theorem lineCloseCommitsOrDamages : Obligations.LineCloseCommitsOrDamages := by
  intro p j l job store opened c steps
  refine ⟨fun good written => ?_, ?_⟩
  · have consumed : j.spec.hostConsumes = true := by simp [JobSpec.hostConsumes, store]
    intro q
    have committed : q = (p.committed j l).raise .scanLine := by
      simp only [q]
      rw [closeLine_whole opened good written, commitLine_eq job, if_pos consumed]
    have scanner : p.scanner.committed p.settings j.spec =
        { c with openLine := none, producer := (c.producer + 1) % p.settings.scanSize, line := c.line + 1, stall := 0,
                 position := c.position.map (· + steps), stepsOwed := c.stepsOwed + steps, stepTicks := 0 } := by
      simp [Scanner.committed, store, c, steps]
    have counted : j.tally.committed j.spec l.noise = { j.tally with
        linesFresh := min 4095 (j.tally.linesFresh + 1), noiseHeld := min 65535 (j.tally.noiseHeld + l.noise) } := by
      simp [Tally.committed, store]
    rw [committed]
    refine ⟨scanner, rfl, ?_, rfl, ?_⟩
    · rw [← counted]
      rfl
    · intro block other
      cases block
      case scanner | path | disp | status => simp at other
      all_goals rfl
  · intro whole hurt stall m tally left
    rw [closeLine_hurt opened hurt, damageLine_eq job]
    refine ⟨fun below => ?_, fun reached late => ?_, fun reached free scans unsent away => ?_⟩
    · exact countScanStall_below (p := p.damaged j) below
    · exact countScanStall_late (p := p.damaged j) reached rfl store late
    · exact countScanStall_first (p := p.damaged j) reached rfl free scans unsent away

end

end Sys2Proof.Machine
end

section
/-! What a line event does at the sender (R123 to R131, R134), for a LIVE and for a RELAY alike. -/

namespace Sys2Proof.Machine

open Sys2Proof.Claims (released toStop lastInHand)

section
variable {p q : Part} {slot : JobSlot} {j k : Job} {before n : Nat} {wasLast : Bool}

/-! ## The job that holds the sender -/

/-- The part with this job in a slot. -/
def Part.withJob (p : Part) : JobSlot → Job → Part
  | .scan, k => p.withScan k
  | .relay, k => p.withRelay k

/-- The job in this slot holds the sender. -/
def Part.sendsFor (p : Part) (slot : JobSlot) (j : Job) : Prop := p.senderSlot = some slot ∧ p.jobAt slot = some j

theorem onTally_withJob (job : p.jobAt slot = some j) (f : Tally → Tally) :
    p.onTally slot f = p.withJob slot { j with tally := f j.tally } := by
  cases slot
  · exact onJob_scan job _
  · exact onJob_relay job _

theorem onSenderTally_eq (sends : p.sendsFor slot j) (f : Tally → Tally) :
    p.onSenderTally f = p.withJob slot { j with tally := f j.tally } := by
  obtain ⟨slot_of, job⟩ := sends
  rw [Part.onSenderTally, slot_of]
  exact onTally_withJob job f

theorem sendsFor_withJob (sends : p.sendsFor slot j) (spec : k.spec = j.spec) : (p.withJob slot k).sendsFor slot k := by
  obtain ⟨slot_of, job⟩ := sends
  refine ⟨?_, by cases slot <;> rfl⟩
  rw [← slot_of]
  cases slot with
  | relay =>
    simp only [Part.jobAt] at job
    simp [Part.senderSlot, Part.withJob, Part.withRelay, job]
  | scan =>
    simp only [Part.jobAt] at job
    simp [Part.senderSlot, Part.withJob, Part.withScan, job, spec]

/-- An update that leaves the dispatcher leaves the job that holds the sender. -/
theorem sendsFor_of_disp (sends : p.sendsFor slot j) (disp : q.disp = p.disp) : q.sendsFor slot j := by
  obtain ⟨slot_of, job⟩ := sends
  refine ⟨?_, (Part.jobAt_congr disp slot).trans job⟩
  rw [← slot_of, Part.senderSlot, Part.senderSlot, disp]

theorem withJob_again (p : Part) (slot : JobSlot) (j k : Job) : (p.withJob slot j).withJob slot k = p.withJob slot k := by
  cases slot <;> rfl

theorem withJob_self (job : p.jobAt slot = some j) : p.withJob slot j = p := by
  cases slot
  · simp only [Part.withJob, Part.withScan, ← show p.disp.scanJob = some j from job]
  · simp only [Part.withJob, Part.withRelay, ← show p.disp.relayJob = some j from job]

theorem senderJob_of_sends (sends : p.sendsFor slot j) : p.senderJob = some j := by
  obtain ⟨slot_of, job⟩ := sends
  rw [Part.senderJob, slot_of]
  exact job

/-! ## Lines -/

/-- One more line event (R124). -/
def Tally.counted (t : Tally) : Tally := { t with lineEvents := min 65535 (t.lineEvents + 1) }

/-- One more phasing line (R125). -/
def Tally.phased (t : Tally) : Tally := { t.counted with phasingSent := min 31 (t.phasingSent + 1) }

theorem countSenderLine_eq (sends : p.sendsFor slot j) :
    countSenderLine p = p.withJob slot { j with tally := j.tally.counted } := onSenderTally_eq sends _

theorem countSenderLine_withJob (sends : p.sendsFor slot j) (spec : k.spec = j.spec) :
    countSenderLine (p.withJob slot k) = p.withJob slot { k with tally := k.tally.counted } := by
  rw [countSenderLine_eq (sendsFor_withJob sends spec), withJob_again]

theorem phasingLine_eq (sends : p.sendsFor slot j) : phasingLine p =
    Part.withJob { p with sender := { p.sender with state := .phasing } } slot { j with tally := j.tally.phased } := by
  have sent := onSenderTally_eq (p := p.onSender fun d => { d with state := .phasing })
    (f := fun t => { t with phasingSent := satAdd 31 t.phasingSent 1 }) (sendsFor_of_disp sends rfl)
  have counted := countSenderLine_withJob (p := p.onSender fun d => { d with state := .phasing })
    (k := { j with tally := { j.tally with phasingSent := satAdd 31 j.tally.phasingSent 1 } }) (sendsFor_of_disp sends rfl) rfl
  exact (congrArg countSenderLine sent).trans counted

/-- The sender with a taken line (R127). -/
def Sender.taking (d : Sender) (ring : LineRing) (slot line : Nat) : Sender :=
  { d with hand := some (newHand ring slot .taken 0), fifo := [], held := 255, stall := 0, line := line }

/-- The part with the line that is sent guarded (R101). -/
def Part.sending (p : Part) (r : Region) : Part :=
  { p with path := { p.path with guards := { p.path.guards with sending := some r } } }

theorem takeLine_eq (sends : p.sendsFor slot k) : takeLine j p =
    Part.withJob
      (Part.sending { p with sender := p.sender.taking j.spec.ring (p.consumerIndex j.spec.ring) j.tally.linesFresh }
        (p.settings.lineSlot j.spec.ring (p.consumerIndex j.spec.ring)))
      slot { k with tally := { k.tally with linesFresh := min 4095 (k.tally.linesFresh + 1) } } := by
  simp only [takeLine, onSenderTally_eq sends]
  cases slot <;> rfl

/-- The sender that has no fresh line (R127). -/
def Sender.again (d : Sender) (hand : LineInHand) : Sender :=
  { d with stall := min 63 (d.stall + 1), fifo := [], held := 255, hand := some hand }

/-- The part that sends its last line again, or white (R127). -/
def Part.repeats (p : Part) (ring : LineRing) (fresh : Nat) : Part :=
  let back := (p.consumerIndex ring + p.settings.ringSize ring - 1) % p.settings.ringSize ring
  if fresh = 0 then { p with sender := p.sender.again (newHand ring back .white 0) }
  else Part.sending { p with sender := p.sender.again (newHand ring back .repeated 4) } (p.settings.lineSlot ring back)

theorem repeatLine_eq (sends : p.sendsFor slot k) : repeatLine j p = judgeStall j
    ((p.repeats j.spec.ring j.tally.linesFresh).withJob slot
      { k with tally := { k.tally with linesRepeated := min 65535 (k.tally.linesRepeated + 1) } }) := by
  simp only [repeatLine, onSenderTally_eq sends, Part.repeats]
  by_cases white : j.tally.linesFresh = 0
  · simp only [if_pos white]
    cases slot <;> rfl
  · simp only [if_neg white]
    cases slot <;> rfl

/-! ## The work of the states -/

theorem wasLast_iff (d : Part) : d.handLast = true ↔ lastInHand d.sender := by
  unfold Part.handLast
  cases hand : d.sender.hand with
  | none => simp [lastInHand, hand]
  | some h => simp [lastInHand, hand]

theorem senderLine_counts (sends : p.sendsFor slot j) (tone : p.sender.state.toneOn = true) :
    senderLine before wasLast p = countedLine before wasLast j p := by
  simp only [senderLine, senderJob_of_sends sends]
  cases state : p.sender.state <;> simp_all [SenderState.toneOn]

/-- The part at the count of a line event (R124). -/
def Part.eventCounted (p : Part) : Part := { p with sender := { p.sender with events := p.sender.events + 1 } }

/-- A sender that calls no scanner does the work of its state alone. -/
theorem countedLine_uncalled (uncalled : ¬ (j.spec.kind = .live ∧ ¬ p.sender.onTimer = true ∧ p.sender.callMark = true ∧
    j.spec.startRevs + j.spec.phasingRevs ≤ p.sender.events + 1 + 2 ∧ p.scanner.armed = true)) :
    countedLine before wasLast j p = toneLine before wasLast (p.sender.events + 1) j p.eventCounted := by
  have stays : callScanner (p.sender.events + 1) j p.eventCounted = p.eventCounted := if_neg uncalled
  exact congrArg (toneLine before wasLast (p.sender.events + 1) j) stays

theorem toneLine_start_counts (state : p.sender.state = .start) (early : n < j.spec.startRevs) :
    toneLine before wasLast n j p = countSenderLine p := by
  simp only [toneLine, state, if_neg (Nat.not_le.mpr early)]

theorem toneLine_start_phasing (state : p.sender.state = .start) (reached : j.spec.startRevs ≤ n) :
    toneLine before wasLast n j p = phasingLine p := by
  simp only [toneLine, state, if_pos reached]

theorem toneLine_phasing (state : p.sender.state = .phasing) (early : n < j.spec.startRevs + j.spec.phasingRevs) :
    toneLine before wasLast n j p = phasingLine p := by
  simp only [toneLine, state, if_neg (Nat.not_le.mpr early)]

theorem toneLine_image_begins (state : p.sender.state = .phasing) (reached : j.spec.startRevs + j.spec.phasingRevs ≤ n) :
    toneLine before wasLast n j p =
      imageLine before false j { p with sender := { p.sender with state := .image } } := by
  simp only [toneLine, state, if_pos reached]
  rfl

theorem toneLine_image (state : p.sender.state = .image) :
    toneLine before wasLast n j p = imageLine before wasLast j p := by
  simp only [toneLine, state]

theorem toneLine_stop (state : p.sender.state = .stop) : toneLine before wasLast n j p = stopLine j p := by
  simp only [toneLine, state]

/-! ## Image lines -/

/-- The part at the entry to STOP with no line in hand (R134). -/
def Part.stopping (p : Part) : Part :=
  { p with sender := { p.sender with state := .stop, increment := p.derived.blackIncrement, stopCount := 0,
                                     callMark := false, fifo := [] } }

theorem released_of_empty (empty : p.sender.hand = none) : released p = p := by
  simp only [released, empty]

theorem enterStop_of_empty (empty : p.sender.hand = none) : enterStop p = p.stopping := by
  rw [enterStop_eq, toStop, released_of_empty empty]
  rfl

theorem released_empty (p : Part) : (released p).sender.hand = none := by
  unfold released
  cases hand : p.sender.hand with
  | none => exact hand
  | some h =>
    simp only
    cases h.kind <;> cases h.ring <;> rfl

/-- Whether IMAGE is at its end (R128, R131). -/
def Part.imageEnded (p : Part) (before : Nat) (wasLast : Bool) (j : Job) : Prop :=
  j.spec.lines ≤ j.tally.linesFresh ∨ wasLast = true ∨ liveImageEnd before j p = true

theorem imageLine_ends (ended : p.imageEnded before wasLast j) : imageLine before wasLast j p = endImage wasLast j p :=
  if_pos ended

/-- The end of IMAGE for a job that is not cut short (R131). -/
theorem endImage_eq (sends : p.sendsFor slot j) (empty : p.sender.hand = none)
    (complete : ¬ (wasLast = true ∧ j.spec.kind = .relay ∧ j.tally.linesFresh < j.spec.lines)) :
    endImage wasLast j p = p.stopping.withJob slot { j with tally := j.tally.counted } := by
  rw [endImage, if_neg complete, enterStop_of_empty empty]
  exact countSenderLine_eq (sendsFor_of_disp (q := p.stopping) sends rfl)

theorem imageLine_takes (unended : ¬ p.imageEnded before wasLast j) (sends : p.sendsFor slot j)
    (fresh : eligible before j p = true) : imageLine before wasLast j p =
      Part.withJob
        (Part.sending { p with sender := p.sender.taking j.spec.ring (p.consumerIndex j.spec.ring) j.tally.linesFresh }
          (p.settings.lineSlot j.spec.ring (p.consumerIndex j.spec.ring)))
        slot { j with tally := { j.tally.counted with linesFresh := min 4095 (j.tally.linesFresh + 1) } } := by
  have takes : imageLine before wasLast j p = takeLine j (countSenderLine p) := (if_neg unended).trans (if_pos fresh)
  have counted : (p.withJob slot { j with tally := j.tally.counted }).sendsFor slot { j with tally := j.tally.counted } :=
    sendsFor_withJob sends rfl
  rw [takes, countSenderLine_eq sends, takeLine_eq counted]
  cases slot <;> rfl

theorem imageLine_repeats (unended : ¬ p.imageEnded before wasLast j) (sends : p.sendsFor slot j)
    (stale : eligible before j p = false) : imageLine before wasLast j p =
      judgeStall j ((p.repeats j.spec.ring j.tally.linesFresh).withJob slot
        { j with tally := { j.tally.counted with linesRepeated := min 65535 (j.tally.linesRepeated + 1) } }) := by
  have repeats : imageLine before wasLast j p = repeatLine j (countSenderLine p) :=
    (if_neg unended).trans (if_neg (Bool.eq_false_iff.mp stale))
  have counted : (p.withJob slot { j with tally := j.tally.counted }).sendsFor slot { j with tally := j.tally.counted } :=
    sendsFor_withJob sends rfl
  rw [repeats, countSenderLine_eq sends, repeatLine_eq counted]
  refine congrArg (judgeStall j) ?_
  simp only [Part.repeats]
  by_cases white : j.tally.linesFresh = 0
  · simp only [if_pos white]
    cases slot <;> rfl
  · simp only [if_neg white]
    cases slot <;> rfl

end

end Sys2Proof.Machine
end

section
/-! A line timer expiry at a RELAY (R78, R119, R123 to R131, R134). -/

namespace Sys2Proof.Machine

open Sys2Proof.Claims (ends leaves answers released lastInHand causedIn checked idleSender stoppedTimer relaySends toStop)

section
variable {s : State} {p x before : Part} {j k : Job} {w : Bool}

/-! ## The event -/

theorem leaves_of_expiry (running : s.part.timer.running = some .relay)
    (event : closeEvent s.part (expireTimer s.part) = ends s.part x) : leaves .lineTimerExpiry s x :=
  leaves_of_ready (ready := fun p => p.timer.running.isSome) (f := expireTimer) rfl (by simp [running]) event

/-- The part with the line timer at the start of its revolution (R78, R79). -/
def Part.revolved (p : Part) : Part := { p with timer := { p.timer with count := 0, begun := true, nextStart := 0 } }

theorem expireTimer_eq (onTimer : p.sender.onTimer = true) : expireTimer p =
    senderLine p.scanner.producer p.handLast (releaseAtLine p.revolved) := if_pos onTimer

theorem releaseAtLine_other (state : p.sender.state ≠ .image) : releaseAtLine p = p := if_neg state

/-- A line event of a RELAY changes its tally alone. -/
theorem closeEvent_line (settled : before.settled = true) (job : before.disp.relayJob = some j)
    (opened : x.isOpen = before.isOpen) (servo : x.servo = before.servo) (disp : x.disp = before.disp) (t : Tally) :
    closeEvent before (x.withRelay { j with tally := t }) = ends before (x.withRelay { j with tally := t }) := by
  refine closeEvent_of_work settled opened servo ?_
  simp [Part.withRelay, disp, Dispatcher.work, job, Job.sides]

theorem sendsFor_relay (job : p.disp.relayJob = some j) : p.sendsFor .relay j := by
  refine ⟨?_, job⟩
  simp only [Part.senderSlot, job]

/-- A RELAY calls no scanner (R126). -/
theorem countedLine_relay (kind : j.spec.kind = .relay) {before : Nat} :
    countedLine before w j p = toneLine before w (p.sender.events + 1) j p.eventCounted :=
  countedLine_uncalled fun called => by simp [kind] at called

/-- An expiry of a RELAY that sends and holds no line to release. -/
theorem expireTimer_tone (onTimer : p.sender.onTimer = true) (job : p.disp.relayJob = some j)
    (kind : j.spec.kind = .relay) (tone : p.sender.state.toneOn = true) (state : p.sender.state ≠ .image) :
    expireTimer p = toneLine p.scanner.producer p.handLast (p.sender.events + 1) j p.revolved.eventCounted := by
  rw [expireTimer_eq onTimer, releaseAtLine_other (p := p.revolved) state,
    senderLine_counts (sendsFor_relay (p := p.revolved) job) tone, countedLine_relay kind]
  rfl

/-! ## Image lines -/

/-- What the release of a line leaves at the sender (R127). -/
theorem released_sender (p : Part) : (released p).sender = { p.sender with
    hand := none, fifo := (released p).sender.fifo, feedConsumer := (released p).sender.feedConsumer } := by
  unfold released
  cases hand : p.sender.hand with
  | none => simp only [← hand]
  | some h =>
    simp only
    cases h.kind <;> cases h.ring <;> rfl

theorem released_revolved (p : Part) : released p.revolved = (released p).revolved := by
  unfold released
  cases hand : p.sender.hand with
  | none => simp only [Part.revolved, hand]
  | some h =>
    simp only [Part.revolved, hand]
    cases h.kind <;> cases h.ring <;> rfl

/-- The part at an image line event, its line released and the event counted. -/
def Part.imaging (p : Part) : Part :=
  { Claims.released p with
    timer := { p.timer with count := 0, begun := true, nextStart := 0 }, disp := p.disp,
    sender := { (Claims.released p).sender with events := p.sender.events + 1, state := .image } }

theorem expireTimer_image (onTimer : p.sender.onTimer = true) (job : p.disp.relayJob = some j)
    (kind : j.spec.kind = .relay)
    (state : (p.sender.state = .phasing ∧ j.spec.startRevs + j.spec.phasingRevs ≤ p.sender.events + 1 ∧
      p.sender.hand = none) ∨ p.sender.state = .image) :
    ∃ w, (w = true ↔ lastInHand p.sender) ∧ expireTimer p = imageLine p.scanner.producer w j p.imaging := by
  rcases state with ⟨state, reached, empty⟩ | state
  · refine ⟨false, by simp [lastInHand, empty], ?_⟩
    rw [expireTimer_tone onTimer job kind (by rw [state]; rfl) (by rw [state]; decide),
      toneLine_image_begins (p := p.revolved.eventCounted) state reached, Part.imaging, released_of_empty empty]
    rfl
  · refine ⟨p.handLast, wasLast_iff p, ?_⟩
    have sender := released_sender p
    have still : (released p).sender.state = .image := by rw [sender]; exact state
    have events : (released p).sender.events = p.sender.events := by rw [sender]
    have releases : releaseAtLine p.revolved = (released p).revolved :=
      (if_pos state).trans ((releaseHand_eq _).trans (released_revolved p))
    have job_r : (released p).revolved.disp.relayJob = some j := by
      rw [show (released p).revolved.disp = (released p).disp from rfl, (released_frame p).1]
      exact job
    have entered : p.imaging = (released p).revolved.eventCounted := by
      obtain ⟨disp, timer, -, -⟩ := released_frame p
      rw [Part.imaging, ← still, ← events, ← disp, ← timer]
      rfl
    rw [expireTimer_eq onTimer, releases, senderLine_counts (sendsFor_relay job_r) (by
      rw [show (released p).revolved.sender.state = (released p).sender.state from rfl, still]; rfl),
      countedLine_relay kind, toneLine_image (p := (released p).revolved.eventCounted) still, entered]

theorem imaging_sends (job : p.disp.relayJob = some j) : p.imaging.sendsFor .relay j := sendsFor_relay job

theorem imaging_frame (p : Part) : p.imaging.isOpen = p.isOpen ∧ p.imaging.servo = p.servo ∧
    p.imaging.settings = p.settings ∧ p.imaging.derived = p.derived ∧ p.imaging.sender.hand = none := by
  obtain ⟨-, -, servo, opened⟩ := released_frame p
  have loader : (released p).loader = p.loader := by rw [← releaseHand_eq]; simp
  refine ⟨opened, servo, settings_of_loader loader, ?_, released_empty p⟩
  rw [Part.derived, Part.derived, show p.imaging.loader = (released p).loader from rfl, loader]

/-- An image line of a RELAY ends the image at its last line or at one marked LAST (R131). -/
theorem imageEnded_relay (kind : j.spec.kind = .relay) {before : Nat} :
    x.imageEnded before w j ↔ j.spec.lines ≤ j.tally.linesFresh ∨ w = true := by
  simp [Part.imageEnded, liveImageEnd, kind]

/-- A RELAY that ends on a line marked LAST is short of its lines (R131). -/
theorem endImage_relay (job : x.disp.relayJob = some j) (kind : j.spec.kind = .relay) (empty : x.sender.hand = none)
    (ended : j.spec.lines ≤ j.tally.linesFresh ∨ w = true) : endImage w j x = x.stopping.withRelay
      { j with tally := { j.tally.counted with isShort := j.tally.isShort || decide (j.spec.lines > j.tally.linesFresh) } } := by
  by_cases cut : j.tally.linesFresh < j.spec.lines
  · have last : w = true := ended.resolve_left (Nat.not_le.mpr cut)
    have short : endImage w j x = countSenderLine (enterStop (setShort .relay x)) := by
      rw [endImage, if_pos ⟨last, kind, cut⟩]
    have marked : setShort .relay x = x.withRelay { j with tally := { j.tally with isShort := true } } :=
      onTally_withJob (slot := .relay) job _
    rw [short, marked, enterStop_of_empty (p := x.withRelay _) empty,
      countSenderLine_eq (slot := .relay) (j := { j with tally := { j.tally with isShort := true } }) (sendsFor_relay rfl)]
    simp only [gt_iff_lt, cut, decide_true, Bool.or_true]
    rfl
  · have whole := endImage_eq (wasLast := w) (sendsFor_relay job) empty fun h => cut h.2.2
    rw [whole]
    simp only [gt_iff_lt, cut, decide_false, Bool.or_false]
    rfl

/-- The part at a line event of a RELAY that leaves this part, this sender and these counts. -/
def Part.atLine (p r : Part) (d : Sender) (j : Job) (t : Tally) : Part :=
  { r with timer := { p.timer with count := 0, begun := true, nextStart := 0 },
           sender := { d with events := p.sender.events + 1 },
           disp := { p.disp with relayJob := some { j with tally := t } } }

theorem leaves_atLine {r : Part} {d : Sender} {t : Tally} (settled : s.part.settled = true)
    (running : s.part.timer.running = some .relay) (job : s.part.disp.relayJob = some j)
    (line : expireTimer s.part = s.part.atLine r d j t) (opened : r.isOpen = s.part.isOpen)
    (servo : r.servo = s.part.servo) : leaves .lineTimerExpiry s (s.part.atLine r d j t) := by
  refine leaves_of_expiry running ?_
  rw [line]
  exact closeEvent_line (x := { r with
    timer := { s.part.timer with count := 0, begun := true, nextStart := 0 },
    sender := { d with events := s.part.sender.events + 1 }, disp := s.part.disp }) settled job opened servo rfl t

/-- The region that a feed line is read from (R10). -/
def Part.feedRegion (p : Part) (i : Nat) : Region := ⟨p.settings.feedBase + i * (4 + p.settings.image), 4 + p.settings.image⟩

theorem feedRegion_eq (same : x.settings = p.settings) (i : Nat) : x.settings.lineSlot .feed i = p.feedRegion i := by
  rw [same]
  rfl

/-- The sender of a RELAY that has no fresh line (R127). -/
def Part.restless (p : Part) (hand : LineInHand) : Sender :=
  { (Claims.released p).sender with state := .image, fifo := [], held := 255, stall := min 63 (p.sender.stall + 1),
                                    hand := some hand }

theorem repeats_imaging (fresh : Nat) (kept : Job) (t : Tally) : (p.imaging.repeats .feed fresh).withRelay { kept with tally := t } =
    let back := ((released p).sender.feedConsumer + p.settings.feedSize - 1) % p.settings.feedSize
    if fresh = 0 then p.atLine (released p) (p.restless (newHand .feed back .white 0)) kept t
    else p.atLine ((released p).sending (p.feedRegion back)) (p.restless (newHand .feed back .repeated 4)) kept t := by
  obtain ⟨-, -, settings, -, -⟩ := imaging_frame p
  have stall : (released p).sender.stall = p.sender.stall := by rw [released_sender p]
  simp only [Part.repeats, settings, Settings.ringSize, Part.restless, ← stall]
  split <;> rfl

/-- What stands at a RELAY that has no fresh line, whichever line it sends (R127, R130). -/
theorem repeats_facts (fresh : Nat) (kept : Job) :
    let y := (p.imaging.repeats .feed fresh).withRelay kept
    y.sender.state = .image ∧ y.sender.stall = min 63 (p.sender.stall + 1) ∧ y.sender.line = p.sender.line ∧
      y.settings = p.settings := by
  obtain ⟨-, -, settings, -, -⟩ := imaging_frame p
  have sender := released_sender p
  have stall : (released p).sender.stall = p.sender.stall := by rw [sender]
  have line : (released p).sender.line = p.sender.line := by rw [sender]
  intro y
  simp only [y, Part.repeats]
  split
  · exact ⟨rfl, by rw [← stall]; rfl, line, settings⟩
  · exact ⟨rfl, by rw [← stall]; rfl, line, settings⟩

theorem judgeStall_below (below : x.sender.stall < x.settings.stallLimit) : judgeStall j x = x :=
  if_neg (Nat.not_le.mpr below)

/-- FEED_STALL as the first cause of a RELAY in IMAGE (R39, R130). -/
theorem judgeStall_relay (kind : j.spec.kind = .relay) (reached : x.settings.stallLimit ≤ x.sender.stall)
    (job : x.disp.relayJob = some k) (free : k.firstCause = none) (scans : k.scannerSide.active = false)
    (works : k.senderSide = ⟨true, false⟩) (state : x.sender.state = .image) :
    judgeStall j x = offer .relay .feedStall .sender x ∧ (offer .relay .feedStall .sender x).sender.state = .stop ∧
      (offer .relay .feedStall .sender x).sender.hand = none := by
  have stays : switchToTimer k .feedStall x = x := by simp [switchToTimer, Cause.isDrumFault]
  have offered : offer .relay .feedStall .sender x = toStop (x.withRelay (x.relayCaused k .feedStall)) := by
    rw [offer_winds (slot := .relay) job free rfl stays, onJob_relay job,
      windDown_sender (slot := .relay) rfl (by simp [Side.works, Job.setFirst, scans])
        (by simp [Side.works, Job.setFirst, works]),
      windDownSender_stop (p := x.withRelay _) (.inr (.inr state)) (by decide), enterStop_eq]
    rfl
  refine ⟨(if_pos reached).trans (if_pos kind), by rw [offered]; rfl, ?_⟩
  rw [offered]
  exact released_empty _

section expiry
variable (onTimer : p.sender.onTimer = true) (job : p.disp.relayJob = some j) (kind : j.spec.kind = .relay)
include onTimer job kind

omit kind in
theorem expireTimer_calling (state : p.sender.state = .calling) : expireTimer p = p.revolved := by
  have sends : p.revolved.sendsFor .relay j := sendsFor_relay job
  rw [expireTimer_eq onTimer, releaseAtLine_other (p := p.revolved) (by rw [show p.revolved.sender.state = _ from state]; decide)]
  simp only [senderLine, senderJob_of_sends sends, show p.revolved.sender.state = .calling from state]

/-- Line event 0 (R123, R124). -/
theorem expireTimer_standby (state : p.sender.state = .standby) : expireTimer p =
    Part.withRelay { p.revolved with
      sender := { p.sender with state := .start, events := 0, increment := p.derived.whiteIncrement } }
      { j with tally := j.tally.counted } := by
  have sends : p.revolved.sendsFor .relay j := sendsFor_relay job
  have relay : j.spec.kind = .relay ∨ p.revolved.scanner.armed = true := .inl kind
  have calls (m : Nat) (x : Part) : callScanner m j x = x := if_neg fun called => by simp [kind] at called
  have counts := countSenderLine_eq (slot := .relay) (j := j) (p := p.revolved.onSender fun d =>
    { d with state := .start, events := 0, increment := p.revolved.derived.whiteIncrement }) (sendsFor_relay job)
  rw [expireTimer_eq onTimer, releaseAtLine_other (p := p.revolved) (by rw [show p.revolved.sender.state = _ from state]; decide)]
  simp only [senderLine, senderJob_of_sends sends, show p.revolved.sender.state = .standby from state, if_pos relay]
  simp only [enterStart, calls, counts, kind, reduceCtorEq, if_false]
  rfl

theorem expireTimer_starting (state : p.sender.state = .start) (early : p.sender.events + 1 < j.spec.startRevs) :
    expireTimer p = p.atLine p p.sender j j.tally.counted := by
  rw [expireTimer_tone onTimer job kind (by rw [state]; rfl) (by rw [state]; decide),
    toneLine_start_counts (p := p.revolved.eventCounted) state early]
  exact countSenderLine_eq (slot := .relay) (p := p.revolved.eventCounted) (sendsFor_relay job)

/-- PHASING begins, or goes on (R125). -/
theorem expireTimer_phasing (state : (p.sender.state = .start ∧ j.spec.startRevs ≤ p.sender.events + 1) ∨
    (p.sender.state = .phasing ∧ p.sender.events + 1 < j.spec.startRevs + j.spec.phasingRevs)) :
    expireTimer p = p.atLine p { p.sender with state := .phasing } j j.tally.phased := by
  have phases := phasingLine_eq (slot := .relay) (j := j) (p := p.revolved.eventCounted) (sendsFor_relay job)
  rcases state with ⟨state, reached⟩ | ⟨state, early⟩
  · rw [expireTimer_tone onTimer job kind (by rw [state]; rfl) (by rw [state]; decide),
      toneLine_start_phasing (p := p.revolved.eventCounted) state reached]
    exact phases
  · rw [expireTimer_tone onTimer job kind (by rw [state]; rfl) (by rw [state]; decide),
      toneLine_phasing (p := p.revolved.eventCounted) state early]
    exact phases

section image
variable (state : (p.sender.state = .phasing ∧ j.spec.startRevs + j.spec.phasingRevs ≤ p.sender.events + 1 ∧
  p.sender.hand = none) ∨ p.sender.state = .image)
include state

/-- The end of IMAGE (R131). -/
theorem expireTimer_ends (ended : j.spec.lines ≤ j.tally.linesFresh ∨ lastInHand p.sender) : expireTimer p =
    p.atLine (released p)
      { (released p).sender with state := .stop, increment := p.derived.blackIncrement, stopCount := 0, callMark := false,
                                 fifo := [] }
      j { j.tally.counted with isShort := j.tally.isShort || decide (j.spec.lines > j.tally.linesFresh) } := by
  obtain ⟨w, last, event⟩ := expireTimer_image onTimer job kind state
  obtain ⟨-, -, -, derived, empty⟩ := imaging_frame p
  have ended' : j.spec.lines ≤ j.tally.linesFresh ∨ w = true := ended.imp id last.mpr
  rw [event, imageLine_ends ((imageEnded_relay kind).mpr ended'), endImage_relay (x := p.imaging) job kind empty ended', Part.stopping, derived]
  rfl

/-- The oldest line of the feed ring is taken (R127, R129). -/
theorem expireTimer_takes (unended : ¬ (j.spec.lines ≤ j.tally.linesFresh ∨ lastInHand p.sender))
    (fresh : (released p).sender.feedConsumer ≠ (released p).sender.feedProducer) : expireTimer p =
    p.atLine ((released p).sending (p.feedRegion (released p).sender.feedConsumer))
      ({ (released p).sender with state := .image }.taking .feed (released p).sender.feedConsumer j.tally.linesFresh)
      j { j.tally.counted with linesFresh := min 4095 (j.tally.linesFresh + 1) } := by
  obtain ⟨w, last, event⟩ := expireTimer_image onTimer job kind state
  obtain ⟨-, -, settings, -, -⟩ := imaging_frame p
  have unended' : ¬ p.imaging.imageEnded p.scanner.producer w j := fun ended =>
    unended (((imageEnded_relay kind).mp ended).imp id last.mp)
  have feed : j.spec.ring = .feed := if_pos kind
  have eligible_line : eligible p.scanner.producer j p.imaging = true :=
    (if_pos kind).trans (decide_eq_true fresh)
  rw [event, imageLine_takes unended' (imaging_sends job) eligible_line, feed, feedRegion_eq (x := p.imaging) settings]
  rfl

/-- With no fresh line the last one is read again, or a white line sent (R127). -/
theorem expireTimer_repeats (unended : ¬ (j.spec.lines ≤ j.tally.linesFresh ∨ lastInHand p.sender))
    (stale : (released p).sender.feedConsumer = (released p).sender.feedProducer) : expireTimer p =
    judgeStall j ((p.imaging.repeats .feed j.tally.linesFresh).withRelay
      { j with tally := { j.tally.counted with linesRepeated := min 65535 (j.tally.linesRepeated + 1) } }) := by
  obtain ⟨w, last, event⟩ := expireTimer_image onTimer job kind state
  have unended' : ¬ p.imaging.imageEnded p.scanner.producer w j := fun ended =>
    unended (((imageEnded_relay kind).mp ended).imp id last.mp)
  have feed : j.spec.ring = .feed := if_pos kind
  have stale_line : eligible p.scanner.producer j p.imaging = false :=
    (if_pos kind).trans (decide_eq_false (Classical.not_not.mpr stale))
  rw [event, imageLine_repeats unended' (imaging_sends job) stale_line, feed]
  rfl

/-- Below the stall limit the RELAY goes on (R130). -/
theorem expireTimer_again (unended : ¬ (j.spec.lines ≤ j.tally.linesFresh ∨ lastInHand p.sender))
    (stale : (released p).sender.feedConsumer = (released p).sender.feedProducer)
    (below : min 63 (p.sender.stall + 1) < p.settings.stallLimit) :
    let back := ((released p).sender.feedConsumer + p.settings.feedSize - 1) % p.settings.feedSize
    let t : Tally := { j.tally.counted with linesRepeated := min 65535 (j.tally.linesRepeated + 1) }
    expireTimer p =
      if j.tally.linesFresh = 0 then p.atLine (released p) (p.restless (newHand .feed back .white 0)) j t
      else p.atLine ((released p).sending (p.feedRegion back)) (p.restless (newHand .feed back .repeated 4)) j t := by
  intro back t
  obtain ⟨-, stall, -, settings⟩ := repeats_facts (p := p) j.tally.linesFresh { j with tally := t }
  rw [← repeats_imaging, expireTimer_repeats onTimer job kind state unended stale]
  exact judgeStall_below (by rw [stall, settings]; exact below)

/-- At the stall limit the RELAY stops (R39, R130). -/
theorem expireTimer_stalls (before : Part)
    (unended : ¬ (j.spec.lines ≤ j.tally.linesFresh ∨ lastInHand p.sender))
    (stale : (released p).sender.feedConsumer = (released p).sender.feedProducer)
    (reached : p.settings.stallLimit ≤ min 63 (p.sender.stall + 1)) (free : j.firstCause = none)
    (scans : j.scannerSide.active = false) (works : j.senderSide = ⟨true, false⟩) :
    let t := closeEvent before (expireTimer p)
    t.sender.state = .stop ∧ t.sender.hand = none ∧
      causedIn .relay j.spec .feedStall (some ⟨2, 5, p.sender.line⟩) t := by
  intro t
  let k : Job := { j with tally := { j.tally.counted with linesRepeated := min 65535 (j.tally.linesRepeated + 1) } }
  obtain ⟨image, stall, line, settings⟩ := repeats_facts (p := p) j.tally.linesFresh k
  obtain ⟨judged, stop, empty⟩ := judgeStall_relay (k := k) kind (by rw [stall, settings]; exact reached) rfl free scans
    works image
  have event : expireTimer p = offer .relay .feedStall .sender ((p.imaging.repeats .feed j.tally.linesFresh).withRelay k) :=
    (expireTimer_repeats onTimer job kind state unended stale).trans judged
  have caused := causedIn_closeEvent before (offer_causes (slot := .relay) (c := .feedStall) (named := .sender)
    (p := (p.imaging.repeats .feed j.tally.linesFresh).withRelay k) rfl free rfl rfl)
  obtain ⟨-, sender⟩ := closeEvent_frame before (expireTimer p)
  rw [event] at sender
  have five : ((p.imaging.repeats .feed j.tally.linesFresh).withRelay k).stateFor .feedStall .sender = 5 :=
    congrArg SenderState.code image
  have at_line : ((p.imaging.repeats .feed j.tally.linesFresh).withRelay k).lineFor .feedStall .sender = p.sender.line := line
  rw [five, at_line] at caused
  simp only [t, event]
  exact ⟨by rw [sender, stop], by rw [sender, empty], caused⟩

end image

/-- The part at a line event in STOP, counted (R134). -/
def Part.stopCounted (p : Part) : Part :=
  { p.revolved with
    sender := { p.sender with events := p.sender.events + 1, stopCount := min 15 (p.sender.stopCount + 1) } }

theorem expireTimer_stop (stop : p.sender.state = .stop) : expireTimer p =
    if p.settings.stopRevs ≤ min 15 (p.sender.stopCount + 1) then endStop j p.stopCounted
    else countSenderLine p.stopCounted := by
  rw [expireTimer_tone onTimer job kind (by rw [stop]; rfl) (by rw [stop]; decide),
    toneLine_stop (p := p.revolved.eventCounted) stop]
  rfl

omit onTimer kind in
/-- A RELAY that waits for its receipt (R134). -/
theorem endStop_waits (live : p.servo.demands.live = none) (free : j.firstCause = none) (waits : j.spec.waitReceipt = true) :
    endStop j p.stopCounted =
      p.atLine p { p.stopCounted.sender with state := .awaitReceipt, timeout := 0, increment := 0 } j j.tally := by
  have undemanded : ({ p.servo with demands := { p.servo.demands with live := none } } : Servo) = p.servo := by
    rw [← live]
  have kept : ({ p.disp with relayJob := some j } : Dispatcher) = p.disp := by rw [← job]
  have late : ¬ j.firstCause.isSome = true := by simp [free]
  have ends_so : endStop j p.stopCounted = (p.stopCounted.onSender fun d =>
      { d with state := .awaitReceipt, timeout := 0, increment := 0 }).onDemands fun d => { d with live := none } :=
    (if_neg late).trans (if_pos waits)
  rw [ends_so, Part.atLine, kept, Part.onDemands, Part.onServo]
  rw [show (p.stopCounted.onSender _).servo = p.servo from rfl, undemanded]
  rfl

omit onTimer in
/-- The end of a RELAY in IDLE (R134, R138). -/
theorem closeEvent_endStop (settled : p.settled = true) (live : p.servo.demands.live = none)
    (stop : p.sender.state = .stop) (ends_idle : j.firstCause ≠ none ∨ j.spec.waitReceipt = false)
    (unheld : j.spec.holdSpin = false) (scans : j.scannerSide.active = false) (works : j.senderSide = ⟨true, false⟩)
    (empty : p.sender.hand = none) :
    closeEvent p (endStop j p.stopCounted) =
      ends p { p with sender := idleSender p.stopCounted.sender, timer := stoppedTimer p.timer,
                      disp := p.disp.ended .relay ⟨j.spec, j.firstCause.getD .sent, j.tally⟩ } := by
  have kept : released p.stopCounted = p.stopCounted := released_of_empty empty
  have idles {u : Part} {i k : Job} (sends : relaySends u i) (opened : u.isOpen = p.isOpen) (servo : u.servo = p.servo)
      (work : u.disp.work = p.disp.work) (sides : k.sides = i.sides) :
      closeEvent p (senderIdle (u.withRelay k)) = ends p (u.relayEnded ⟨k.spec, k.result, k.tally⟩) := by
    have reaches := senderIdle_relay (p := u.withRelay k) (j := k) rfl (by rw [← servo] at live; exact live)
    rw [reaches]
    exact closeEvent_relayIdle sends settled opened servo work sides
  by_cases first : j.firstCause = none
  · have sends : relaySends p.stopCounted j := ⟨job, kind, unheld, scans, works, first, live⟩
    have ends_so : endStop j p.stopCounted = senderIdle (offerSender .sent p.stopCounted) := by
      have unconfirmed : j.spec.waitReceipt = false := ends_idle.resolve_left (Classical.not_not.mpr first)
      have late : ¬ j.firstCause.isSome = true := by simp [first]
      exact (if_neg late).trans (if_neg (by simp [unconfirmed]))
    have sent : offerSender .sent p.stopCounted =
        p.stopCounted.withRelay (p.stopCounted.relayCaused j .sent) := by
      rw [offer_relay sends rfl]
      simp only [windDownSender, show (p.stopCounted.withRelay _).sender.state = .stop from stop]
    rw [ends_so, sent, idles (k := p.stopCounted.relayCaused j .sent) sends rfl rfl rfl rfl, Part.relayEnded, kept, first]
    rfl
  · obtain ⟨c, caused⟩ := Option.ne_none_iff_exists'.mp first
    have ends_so : endStop j p.stopCounted = senderIdle p.stopCounted := if_pos (by simp [caused])
    have same : (p.stopCounted.withRelay { j with firstCause := none }).withRelay j = p.stopCounted :=
      withJob_self (p := p.stopCounted) (slot := .relay) job
    have sends : relaySends (p.stopCounted.withRelay { j with firstCause := none }) { j with firstCause := none } :=
      ⟨rfl, kind, unheld, scans, works, rfl, live⟩
    have work : (p.stopCounted.withRelay { j with firstCause := none }).disp.work = p.disp.work := by
      simp [Part.withRelay, Part.stopCounted, Part.revolved, Dispatcher.work, job, Job.sides]
    have event := idles (k := j) sends rfl rfl work rfl
    rw [same, Part.relayEnded, released_withRelay, kept] at event
    rw [ends_so, event, caused, Job.result, caused]
    rfl

end expiry

/-- Settles O55: the line event by the state of the sender. -/
theorem lineTimerExpiryIsALineEvent : Obligations.LineTimerExpiryIsALineEvent := by
  intro s j settled running onTimer job kind p d n phasingEnd timer q counted phased
  have lines (r : Part) (d' : Sender) (t : Tally) := leaves_atLine (r := r) (d := d') (t := t) settled running job
  refine ⟨fun calling => ?_, fun standby => ?_, fun start early => ?_, fun start reached => ?_, fun phasing early => ?_,
    fun image => ?_, fun stop => ?_⟩
  · refine leaves_of_expiry running ?_
    rw [expireTimer_calling onTimer job calling]
    exact closeEvent_of_work settled rfl rfl rfl
  · refine leaves_of_expiry running ?_
    rw [expireTimer_standby onTimer job kind standby]
    exact closeEvent_line (x := { s.part.revolved with
      sender := { d with state := .start, events := 0, increment := p.derived.whiteIncrement } }) settled job rfl rfl rfl counted
  · exact lines p d counted (expireTimer_starting onTimer job kind start early) rfl rfl
  · exact lines p { d with state := .phasing } phased (expireTimer_phasing onTimer job kind (.inl ⟨start, reached⟩)) rfl rfl
  · have same : ({ d with state := .phasing } : Sender) = d := by rw [← phasing]
    have goes := lines p { d with state := .phasing } phased
      (expireTimer_phasing onTimer job kind (.inr ⟨phasing, early⟩)) rfl rfl
    rw [same] at goes
    exact goes
  · intro r e fresh last slotAt sends back stall repeats repeated
    obtain ⟨-, -, servo, opened⟩ := released_frame s.part
    refine ⟨fun ended => ?_, fun unended => ⟨fun feeds => ?_, fun stale below => ?_, fun stale reached free scans works => ?_⟩⟩
    · exact lines r _ _ (expireTimer_ends onTimer job kind image ended) opened servo
    · exact lines (r.sending (s.part.feedRegion e.feedConsumer)) _ _
        (expireTimer_takes onTimer job kind image unended feeds) opened servo
    · have again := expireTimer_again onTimer job kind image unended stale below
      by_cases white : fresh = 0
      · rw [if_pos white]
        exact lines r _ _ (again.trans (if_pos white)) opened servo
      · rw [if_neg white]
        exact lines (r.sending (s.part.feedRegion back)) _ _ (again.trans (if_neg white)) opened servo
    · exact answers_of_ready (ready := fun p => p.timer.running.isSome) (f := expireTimer) rfl (by simp [running])
        (expireTimer_stalls onTimer job kind image s.part unended stale reached free scans works)
  · intro stopped
    have counts := expireTimer_stop onTimer job kind stop
    refine ⟨fun below => ?_, fun reached live => ⟨fun free waits => ?_, fun ends_idle unheld scans works empty => ?_⟩⟩
    · refine lines p stopped counted ((counts.trans (if_neg (Nat.not_le.mpr below))).trans ?_) rfl rfl
      exact countSenderLine_eq (slot := .relay) (p := s.part.stopCounted) (sendsFor_relay job)
    · exact lines p _ j.tally ((counts.trans (if_pos reached)).trans (endStop_waits job live free waits)) rfl rfl
    · refine leaves_of_expiry running ?_
      rw [counts, if_pos reached]
      exact closeEvent_endStop job kind settled live stop ends_idle unheld scans works empty

end

end Sys2Proof.Machine
end

section
/-! A drum line event at the scanner and at a LIVE sender (R89 to R91, R96 to R101, R123 to R128). -/

namespace Sys2Proof.Machine

open Sys2Proof.Claims (released lastInHand causedIn toStop)

section
variable {p q : Part} {j : Job} {whole locked w : Bool} {before : Nat}

/-! ## The scanner's steps -/

/-- The region of a scan slot (R10, R91). -/
def Part.scanRegion (p : Part) (i : Nat) : Region := ⟨p.settings.scanBase + i * (4 + p.settings.image), 4 + p.settings.image⟩

/-- The part with the producer slot claimed and guarded (R91). -/
def Part.claimed (p : Part) : Part :=
  { p with scanner := { p.scanner with openLine := some (freshLine p.scanner.producer) },
           path := { p.path with guards := { p.path.guards with scanFill := some (p.scanRegion p.scanner.producer) } } }

theorem claimSlot_eq (allowed : claimAllowed j p = true) : claimSlot j p = p.claimed := if_pos allowed

theorem scannerClaim_other (state : p.scanner.state ≠ .scan) : scannerClaim p = p := by
  unfold scannerClaim
  split
  · rfl
  · exact if_neg state

theorem scannerClaim_eq (job : p.disp.scanJob = some j) (state : p.scanner.state = .scan)
    (allowed : claimAllowed j p = true) : scannerClaim p = p.claimed := by
  simp only [scannerClaim, job, state, if_true, claimSlot_eq allowed]

theorem scannerClose_other (state : p.scanner.state ≠ .scan) : scannerClose whole p = p := by
  unfold scannerClose
  split
  · rfl
  · exact if_neg state

theorem storeEntry_other (job : p.disp.scanJob = some j) (other : j.spec.kind ≠ .store) : storeEntry locked p = p := by
  simp only [storeEntry, job]
  exact if_neg fun h => other h.2.1

/-- The part at the entry to SCAN (R89, R90). -/
def Part.scanning (p : Part) : Part :=
  { p with scanner := { p.scanner with state := .scan, armed := false, enteredScan := true } }

theorem travelEnded_iff : travelEnded p = true ↔ p.pins.travelEnd = true ∨
    p.settings.positionLimit ≤ p.scanner.position.getD 0 := by simp [travelEnded]

theorem enterScan_eq (room : travelEnded p = false) (same : countStoreEvent j p.scanning = q)
    (kept : travelEnded q = travelEnded p) : enterScan j p = q := by
  have event : enterScan j p = if travelEnded (countStoreEvent j p.scanning) then
      endScan j (setShort .scan (countStoreEvent j p.scanning)) else countStoreEvent j p.scanning := rfl
  rw [event, same, kept, room]
  exact if_neg Bool.false_ne_true

theorem countStoreEvent_store (job : p.disp.scanJob = some j) (store : j.spec.kind = .store) :
    countStoreEvent j p = p.withScan { j with tally := j.tally.counted } :=
  (if_pos store).trans (onTally_scan job _)

theorem countStoreEvent_live (live : j.spec.kind = .live) : countStoreEvent j p = p := if_neg (by simp [live])

/-! ## A STORE -/

/-- A drum line event with no sender on the drum. -/
theorem drumLineEvent_unsent (unsent : p.sender.onTimer = true ∨ (p.senderSlot = none ∧ p.sender.state ≠ .image))
    (kept : (scannerClose whole p).senderSlot = p.senderSlot) :
    drumLineEvent whole locked p = scannerClaim (storeEntry locked (scannerClose whole p)) := by
  rcases unsent with timed | ⟨none_sends, state⟩
  · simp [drumLineEvent, timed]
  · have released_none : releaseAtLine p = p := if_neg state
    have silent (q : Part) (b : Nat) (l : Bool) (slot : q.senderSlot = none) : senderLine b l q = q := by
      have none_job : q.senderJob = none := by simp only [Part.senderJob, slot]
      simp only [senderLine, none_job]
    have slot := kept.trans none_sends
    simp only [drumLineEvent, released_none, ite_self]
    congr 2
    split
    · exact silent _ _ _ slot
    · rfl

theorem claimAllowed_iff : claimAllowed j p = true ↔
    (j.spec.kind = .live → (p.scanner.producer + 1) % p.settings.scanSize ≠ p.scanner.senderIndex) ∧
      (j.spec.hostConsumes = true → (p.scanner.producer + 1) % p.settings.scanSize ≠ p.scanner.releaseCopy) := by
  rw [claimAllowed, ringNext, Bool.and_eq_true, Bool.or_eq_true, Bool.or_eq_true, decide_eq_true_iff, decide_eq_true_iff,
    decide_eq_true_iff, Bool.not_eq_true', ← Decidable.imp_iff_not_or, ← Bool.not_eq_true, ← Decidable.imp_iff_not_or]

theorem hostConsumes_store (store : j.spec.kind = .store) : j.spec.hostConsumes = true := by
  simp [JobSpec.hostConsumes, store]

theorem hostConsumes_live (live : j.spec.kind = .live) : j.spec.hostConsumes = j.spec.keep := by
  simp [JobSpec.hostConsumes, live]

/-- A STORE enters SCAN after LOCKED was reported, and claims its first slot (R89, R91). -/
theorem drumLineEvent_enters (job : p.disp.scanJob = some j) (store : j.spec.kind = .store)
    (unsent : p.sender.onTimer = true ∨ (p.senderSlot = none ∧ p.sender.state ≠ .image)) (state : p.scanner.state = .waitLock)
    (room : travelEnded p = false) (free : (p.scanner.producer + 1) % p.settings.scanSize ≠ p.scanner.releaseCopy) :
    drumLineEvent whole true p = (p.scanning.withScan { j with tally := j.tally.counted }).claimed := by
  have open_scan : scannerClose whole p = p := scannerClose_other (by rw [state]; decide)
  have enters : storeEntry true p = enterScan j p := by
    simp only [storeEntry, job]
    exact if_pos ⟨trivial, store, state⟩
  rw [drumLineEvent_unsent unsent (by rw [open_scan]), open_scan, enters,
    enterScan_eq room (countStoreEvent_store (p := p.scanning) job store) rfl]
  refine scannerClaim_eq (j := { j with tally := j.tally.counted }) rfl rfl (claimAllowed_iff.mpr ⟨fun live => ?_, fun _ => free⟩)
  rw [show j.spec.kind = .live from live] at store
  cases store

/-! ## A LIVE on the drum -/

section live
variable (job : p.disp.scanJob = some j) (live : j.spec.kind = .live) (alone : p.disp.relayJob = none)
include job live alone

theorem sendsFor_live : p.sendsFor .scan j := by
  refine ⟨?_, job⟩
  simp [Part.senderSlot, alone, job, live]

end live

/-- What the release of a line leaves at the scanner (R127). -/
theorem released_scanner (p : Part) : (released p).scanner =
    { p.scanner with senderIndex := (released p).scanner.senderIndex } := by
  unfold released
  cases p.sender.hand with
  | none => rfl
  | some h =>
    simp only
    cases h.kind <;> cases h.ring <;> rfl

theorem releaseAtLine_image (state : p.sender.state = .image) : releaseAtLine p = released p :=
  (if_pos state).trans (releaseHand_eq p)

theorem releaseAtLine_states (p : Part) : (releaseAtLine p).scanner.state = p.scanner.state ∧
    (releaseAtLine p).sender.state = p.sender.state := by
  by_cases state : p.sender.state = .image
  · rw [releaseAtLine_image state, released_scanner, released_sender]
    exact ⟨rfl, rfl⟩
  · rw [releaseAtLine_other state]
    exact ⟨rfl, rfl⟩

/-- A drum line event at a sender on the drum, with the scanner not in SCAN. -/
theorem drumLineEvent_onDrum (onDrum : p.sender.onTimer = false) (state : p.scanner.state ≠ .scan) :
    drumLineEvent whole locked p =
      scannerClaim (storeEntry locked (senderLine p.scanner.producer p.handLast (releaseAtLine p))) := by
  obtain ⟨scanner, sender⟩ := releaseAtLine_states p
  have open_scan : scannerClose whole (releaseAtLine p) = releaseAtLine p := scannerClose_other (by rwa [scanner])
  simp only [drumLineEvent, onDrum, Bool.not_false, if_true, open_scan, sender, and_self]

/-- A LIVE whose scanner is not in SCAN claims nothing after its sender's work. -/
theorem settles_live {k : Job} (live : k.spec.kind = .live) (state : q.scanner.state ≠ .scan) :
    scannerClaim (storeEntry locked (q.withScan k)) = q.withScan k := by
  rw [storeEntry_other (p := q.withScan k) rfl (by simp [live]), scannerClaim_other (p := q.withScan k) state]

section live
variable (job : p.disp.scanJob = some j) (live : j.spec.kind = .live) (alone : p.disp.relayJob = none)
  (onDrum : p.sender.onTimer = false)
include job live alone onDrum

/-- A LIVE in STANDBY waits for an armed scanner (R123). -/
theorem drumLineEvent_waits (state : p.scanner.state ≠ .scan) (standby : p.sender.state = .standby)
    (unarmed : p.scanner.armed = false) : drumLineEvent whole locked p = p := by
  have waits : ¬ (j.spec.kind = .relay ∨ p.scanner.armed = true) := by simp [live, unarmed]
  have stays : senderLine p.scanner.producer p.handLast p = p := by
    simp only [senderLine, senderJob_of_sends (sendsFor_live job live alone), standby, if_neg waits]
  have kept : p.withScan j = p := withJob_self (slot := .scan) job
  rw [drumLineEvent_onDrum onDrum state, releaseAtLine_other (by rw [standby]; decide), stays, ← kept, settles_live live state]

/-- The part at line event 0 of a LIVE (R123, R124). -/
def Part.liveStarted (p : Part) (speed : Nat) : Part :=
  { p with
    sender := { p.sender with state := .start, events := 0, increment := p.derived.whiteIncrement },
    servo := { p.servo with demands := { p.servo.demands with live := some ⟨speed, false⟩ } } }

theorem drumLineEvent_starts (state : p.scanner.state ≠ .scan) (standby : p.sender.state = .standby)
    (armed : p.scanner.armed = true) (uncalled : 2 < j.spec.startRevs + j.spec.phasingRevs ∨ p.sender.callMark = false) :
    drumLineEvent whole locked p = (p.liveStarted j.spec.speed).withScan { j with tally := j.tally.counted } := by
  have starts : j.spec.kind = .relay ∨ p.scanner.armed = true := .inr armed
  have sends := sendsFor_live job live alone
  have calls (x : Part) (mark : x.sender.callMark = p.sender.callMark) : callScanner 0 j x = x := by
    refine if_neg fun called => ?_
    rcases uncalled with early | unmarked
    · omega
    · rw [mark, unmarked] at called
      simp at called
  have counts := countSenderLine_eq (slot := .scan) (j := j) (p := p.onSender fun d =>
    { d with state := .start, events := 0, increment := p.derived.whiteIncrement }) (sendsFor_of_disp sends rfl)
  have entered : senderLine p.scanner.producer p.handLast p =
      (p.liveStarted j.spec.speed).withScan { j with tally := j.tally.counted } := by
    simp only [senderLine, senderJob_of_sends sends, standby, if_pos starts]
    simp only [enterStart, counts, live, if_true]
    exact calls _ rfl
  rw [drumLineEvent_onDrum onDrum state, releaseAtLine_other (by rw [standby]; decide), entered]
  exact settles_live (q := p.liveStarted j.spec.speed) (k := { j with tally := j.tally.counted }) live state

/-- The part of a LIVE that calls its scanner (R90, R126). -/
def Part.called (p : Part) (state : SenderState) : Part :=
  Part.scanning { p with sender := { p.sender with events := p.sender.events + 1, callMark := false, state := state } }

theorem drumLineEvent_calls (waiting : p.scanner.state = .waitLock) (armed : p.scanner.armed = true)
    (mark : p.sender.callMark = true) (sending : p.sender.state = .start ∨ p.sender.state = .phasing)
    (called : j.spec.startRevs + j.spec.phasingRevs ≤ p.sender.events + 1 + 2)
    (early : p.sender.events + 1 < j.spec.startRevs + j.spec.phasingRevs) (room : travelEnded p = false)
    (free : (p.scanner.producer + 1) % p.settings.scanSize ≠ p.scanner.senderIndex)
    (held : j.spec.keep = true → (p.scanner.producer + 1) % p.settings.scanSize ≠ p.scanner.releaseCopy) :
    drumLineEvent whole locked p =
      if p.sender.state = .phasing ∨ j.spec.startRevs ≤ p.sender.events + 1 then
        ((p.called .phasing).withScan { j with tally := j.tally.phased }).claimed
      else ((p.called .start).withScan { j with tally := j.tally.counted }).claimed := by
  have sends := sendsFor_live job live alone
  have claims (state : SenderState) (t : Tally) :
      scannerClaim (storeEntry locked ((p.called state).withScan { j with tally := t })) =
        ((p.called state).withScan { j with tally := t }).claimed := by
    rw [storeEntry_other (p := (p.called state).withScan _) rfl (by simp [live])]
    exact scannerClaim_eq rfl rfl (claimAllowed_iff.mpr ⟨fun _ => free, fun keeps => held (by rwa [← hostConsumes_live live])⟩)
  have calls : callScanner (p.sender.events + 1) j p.eventCounted = p.called p.sender.state := by
    have untimed : ¬ p.eventCounted.sender.onTimer = true := by
      rw [show p.eventCounted.sender.onTimer = false from onDrum]
      exact Bool.false_ne_true
    refine (if_pos ⟨live, untimed, mark, called, armed⟩).trans ?_
    exact enterScan_eq (p := p.eventCounted.onSender fun d => { d with callMark := false }) room
      (countStoreEvent_live live) rfl
  have tone : p.sender.state.toneOn = true := by rcases sending with state | state <;> rw [state] <;> rfl
  have counted : countedLine p.scanner.producer p.handLast j p =
      toneLine p.scanner.producer p.handLast (p.sender.events + 1) j (p.called p.sender.state) :=
    congrArg (toneLine p.scanner.producer p.handLast (p.sender.events + 1) j) calls
  rw [drumLineEvent_onDrum onDrum (by rw [waiting]; decide),
    releaseAtLine_other (by rcases sending with state | state <;> rw [state] <;> decide), senderLine_counts sends tone, counted]
  have sends_called (state : SenderState) : (p.called state).sendsFor .scan j := sendsFor_of_disp sends rfl
  rcases sending with state | state
  · rw [state]
    by_cases reached : j.spec.startRevs ≤ p.sender.events + 1
    · rw [if_pos (.inr reached), toneLine_start_phasing (p := p.called .start) rfl reached, phasingLine_eq (sends_called _)]
      exact claims .phasing _
    · rw [if_neg (by simp [reached]), toneLine_start_counts (p := p.called .start) rfl (Nat.not_le.mp reached),
        countSenderLine_eq (sends_called _)]
      exact claims .start _
  · rw [state, if_pos (.inl rfl), toneLine_phasing (p := p.called .phasing) rfl early, phasingLine_eq (sends_called _)]
    exact claims .phasing _

end live

/-! ## Image lines of a LIVE -/

/-- The part at an image line event of a sender on the drum, its line released and the event counted. -/
def Part.onImage (p : Part) : Part :=
  { Claims.released p with
    disp := p.disp, sender := { (Claims.released p).sender with events := p.sender.events + 1, state := .image } }

theorem onImage_frame (p : Part) : p.onImage.settings = p.settings ∧ p.onImage.derived = p.derived ∧
    p.onImage.sender.hand = none ∧ p.onImage.scanner.producer = p.scanner.producer := by
  have loader : (released p).loader = p.loader := by rw [← releaseHand_eq]; simp
  refine ⟨settings_of_loader loader, ?_, released_empty p, ?_⟩
  · rw [Part.derived, Part.derived, show p.onImage.loader = (released p).loader from rfl, loader]
  · rw [show p.onImage.scanner = (released p).scanner from rfl, released_scanner]

/-- An image line event, of a sender in IMAGE or at the end of PHASING (R125, R127). -/
def Part.imageLineDue (p : Part) (j : Job) : Prop :=
  (p.sender.state = .phasing ∧ j.spec.startRevs + j.spec.phasingRevs ≤ p.sender.events + 1 ∧ p.sender.hand = none) ∨
    p.sender.state = .image

/-- Whether the image of a LIVE is at its end (R128, R131). -/
def Part.liveEnded (p : Part) (j : Job) : Prop :=
  j.spec.lines ≤ j.tally.linesFresh ∨ lastInHand p.sender ∨
    (p.scanner.scanDone = true ∧ (Claims.released p).scanner.senderIndex = p.scanner.producer)

section live
variable (job : p.disp.scanJob = some j) (live : j.spec.kind = .live) (alone : p.disp.relayJob = none)
include job live alone

omit job alone in
theorem eligible_live : eligible p.scanner.producer j p.onImage =
    decide ((released p).scanner.senderIndex ≠ p.scanner.producer) := if_neg (by simp [live])

theorem onImage_sends : p.onImage.sendsFor .scan j := sendsFor_live (p := p.onImage) job live alone

omit job alone in
theorem imageEnded_live (last : w = true ↔ lastInHand p.sender) :
    p.onImage.imageEnded p.scanner.producer w j ↔ p.liveEnded j := by
  have done : p.onImage.scanner.scanDone = p.scanner.scanDone := by
    rw [show p.onImage.scanner = (released p).scanner from rfl, released_scanner]
  have ends_image : liveImageEnd p.scanner.producer j p.onImage = true ↔
      p.scanner.scanDone = true ∧ (released p).scanner.senderIndex = p.scanner.producer := by
    rw [liveImageEnd, eligible, if_neg (by simp [live]), done, (onImage_frame p).2.2.2]
    simp [live, show p.onImage.scanner = (released p).scanner from rfl, and_comm]
  rw [Part.imageEnded, Part.liveEnded, last, ends_image]

/-- The sender's work at an image line event that calls no scanner. -/
theorem senderLine_image (uncalled : p.sender.callMark = false ∨ p.scanner.armed = false) (due : p.imageLineDue j) :
    ∃ w, (w = true ↔ lastInHand p.sender) ∧
      senderLine p.scanner.producer p.handLast (releaseAtLine p) = imageLine p.scanner.producer w j p.onImage := by
  have counts (x : Part) (same : x.sender.callMark = p.sender.callMark ∧ x.scanner.armed = p.scanner.armed) :
      countedLine p.scanner.producer p.handLast j x =
        toneLine p.scanner.producer p.handLast (x.sender.events + 1) j x.eventCounted := by
    refine countedLine_uncalled fun called => ?_
    rcases uncalled with unmarked | unarmed
    · simp [same.1, unmarked] at called
    · simp [same.2, unarmed] at called
  rcases due with ⟨state, reached, empty⟩ | state
  · refine ⟨false, by simp [lastInHand, empty], ?_⟩
    rw [releaseAtLine_other (by rw [state]; decide), senderLine_counts (sendsFor_live job live alone) (by rw [state]; rfl),
      counts p ⟨rfl, rfl⟩, toneLine_image_begins (p := p.eventCounted) state reached, Part.onImage, released_of_empty empty]
    rfl
  · refine ⟨p.handLast, wasLast_iff p, ?_⟩
    have sender := released_sender p
    have still : (released p).sender.state = .image := by rw [sender]; exact state
    have events : (released p).sender.events = p.sender.events := by rw [sender]
    have disp := (released_frame p).1
    have sends : (released p).sendsFor .scan j := sendsFor_of_disp (sendsFor_live job live alone) disp
    have entered : p.onImage = (released p).eventCounted := by
      rw [Part.onImage, ← still, ← events, ← disp]
      rfl
    rw [releaseAtLine_image state, senderLine_counts sends (by rw [still]; rfl),
      counts (released p) ⟨by rw [sender], by rw [released_scanner]⟩,
      toneLine_image (p := (released p).eventCounted) still, entered]

end live

section live
variable (job : p.disp.scanJob = some j) (live : j.spec.kind = .live) (alone : p.disp.relayJob = none)
  (onDrum : p.sender.onTimer = false) (state : p.scanner.state ≠ .scan)
  (uncalled : p.sender.callMark = false ∨ p.scanner.armed = false) (due : p.imageLineDue j)
include job live alone onDrum state uncalled due

omit job live alone onDrum uncalled due in
theorem onImage_unscanned : p.onImage.scanner.state ≠ .scan := by
  rw [show p.onImage.scanner = (released p).scanner from rfl, released_scanner]
  exact state

/-- The end of IMAGE (R128, R131). -/
theorem drumLineEvent_ends (ended : p.liveEnded j) : drumLineEvent whole locked p =
    p.onImage.stopping.withScan { j with tally := j.tally.counted } := by
  obtain ⟨w, last, event⟩ := senderLine_image job live alone uncalled due
  have ends_so := endImage_eq (wasLast := w) (onImage_sends job live alone) (onImage_frame p).2.2.1
    fun cut => by simp [live] at cut
  rw [drumLineEvent_onDrum onDrum state, event, imageLine_ends ((imageEnded_live live last).mpr ended), ends_so]
  exact settles_live (q := p.onImage.stopping) (k := { j with tally := j.tally.counted }) live (onImage_unscanned state)

/-- The part of a LIVE that takes a line (R127). -/
def Part.takesLine (p : Part) (fresh : Nat) : Part :=
  Part.sending { p.onImage with sender := p.onImage.sender.taking .scan p.onImage.scanner.senderIndex fresh }
    (p.settings.lineSlot .scan p.onImage.scanner.senderIndex)

theorem drumLineEvent_takes (unended : ¬ p.liveEnded j) (fresh : (released p).scanner.senderIndex ≠ p.scanner.producer) :
    drumLineEvent whole locked p = (p.takesLine j.tally.linesFresh).withScan
      { j with tally := { j.tally.counted with linesFresh := min 4095 (j.tally.linesFresh + 1) } } := by
  obtain ⟨w, last, event⟩ := senderLine_image job live alone uncalled due
  have ring : j.spec.ring = .scan := if_neg (by simp [live])
  have eligible_line : eligible p.scanner.producer j p.onImage = true :=
    (eligible_live live).trans (decide_eq_true fresh)
  rw [drumLineEvent_onDrum onDrum state, event,
    imageLine_takes (fun ended => unended ((imageEnded_live live last).mp ended)) (onImage_sends job live alone) eligible_line,
    ring, (onImage_frame p).1]
  exact settles_live (q := p.takesLine j.tally.linesFresh) (k := { j with tally := _ }) live (onImage_unscanned state)

/-- With no fresh line the last one is read again, or a white line sent, and the stall judged (R126, R127). -/
theorem drumLineEvent_repeats (unended : ¬ p.liveEnded j)
    (stale : (released p).scanner.senderIndex = p.scanner.producer) :
    drumLineEvent whole locked p = scannerClaim (storeEntry locked (judgeStall j
      ((p.onImage.repeats .scan j.tally.linesFresh).withScan
        { j with tally := { j.tally.counted with linesRepeated := min 65535 (j.tally.linesRepeated + 1) } }))) := by
  obtain ⟨w, last, event⟩ := senderLine_image job live alone uncalled due
  have ring : j.spec.ring = .scan := if_neg (by simp [live])
  have stale_line : eligible p.scanner.producer j p.onImage = false :=
    (eligible_live live).trans (decide_eq_false (Classical.not_not.mpr stale))
  rw [drumLineEvent_onDrum onDrum state, event,
    imageLine_repeats (fun ended => unended ((imageEnded_live live last).mp ended)) (onImage_sends job live alone) stale_line,
    ring]
  rfl

omit live alone onDrum uncalled due job state in
/-- What stands at a LIVE that has no fresh line, whichever line it sends (R126, R127). -/
theorem onImage_repeats (fresh : Nat) (k : Job) :
    let y := (p.onImage.repeats .scan fresh).withScan k
    y.sender.state = .image ∧ y.sender.stall = min 63 (p.sender.stall + 1) ∧ y.sender.callMark = p.sender.callMark ∧
      y.settings = p.settings ∧ y.scanner = p.onImage.scanner := by
  have stall : (released p).sender.stall = p.sender.stall := by rw [released_sender p]
  have mark : (released p).sender.callMark = p.sender.callMark := by rw [released_sender p]
  intro y
  simp only [y, Part.repeats]
  split
  · exact ⟨rfl, by rw [← stall]; rfl, mark, (onImage_frame p).1, rfl⟩
  · exact ⟨rfl, by rw [← stall]; rfl, mark, (onImage_frame p).1, rfl⟩

/-- Below the stall limit, or once the call is taken, a LIVE goes on (R126). -/
theorem drumLineEvent_again (unended : ¬ p.liveEnded j)
    (stale : (released p).scanner.senderIndex = p.scanner.producer)
    (goes_on : min 63 (p.sender.stall + 1) < p.settings.stallLimit ∨ p.sender.callMark = false) :
    drumLineEvent whole locked p = (p.onImage.repeats .scan j.tally.linesFresh).withScan
        { j with tally := { j.tally.counted with linesRepeated := min 65535 (j.tally.linesRepeated + 1) } } := by
  let k : Job := { j with tally := { j.tally.counted with linesRepeated := min 65535 (j.tally.linesRepeated + 1) } }
  obtain ⟨-, stall, mark, settings, scanner⟩ := onImage_repeats (p := p) j.tally.linesFresh k
  have unscanned : (p.onImage.repeats .scan j.tally.linesFresh).scanner.state ≠ .scan := by
    rw [show (p.onImage.repeats .scan j.tally.linesFresh).scanner = _ from scanner]
    exact onImage_unscanned state
  have judged : judgeStall j ((p.onImage.repeats .scan j.tally.linesFresh).withScan k) =
      (p.onImage.repeats .scan j.tally.linesFresh).withScan k := by
    rcases goes_on with below | unmarked
    · exact judgeStall_below (by rw [stall, settings]; exact below)
    · rw [judgeStall, mark, unmarked]
      simp [live]
  rw [drumLineEvent_repeats job live alone onDrum state uncalled due unended stale, judged]
  exact settles_live live unscanned

end live

/-! ## SCAN_STALL of a LIVE -/

theorem scannerIdle_state (p : Part) : (scannerIdle p).scanner.state = .idle := rfl

/-- RETURN is entered in RETURN or, with nothing to home for, in IDLE (R104). -/
theorem enterReturn_unscanned (p : Part) : (enterReturn p).scanner.state ≠ .scan := by
  unfold enterReturn
  simp only
  split
  · rw [scannerIdle_state]; decide
  · split
    · split
      · rw [scannerIdle_state]; decide
      · rw [returnFound, scannerIdle_state]; decide
    · rw [show (startHoming _).scanner.state = .back from rfl]; decide

theorem windDownScanner_unscanned (p : Part) : (windDownScanner p).scanner.state ≠ .scan := by
  unfold windDownScanner
  split
  · exact enterReturn_unscanned _
  · exact enterReturn_unscanned _
  · exact enterReturn_unscanned _
  · exact enterReturn_unscanned _
  · next state => rw [state]; decide
  · next state => rw [state]; decide

/-- SCAN_STALL as the first cause of a LIVE in IMAGE (R36, R39, R126). -/
theorem offer_scanStall {k : Job} (job : q.disp.scanJob = some k) (free : k.firstCause = none)
    (works : k.senderSide = ⟨true, false⟩) (state : q.sender.state = .image) (unscanned : q.scanner.state ≠ .scan) :
    let t := offer .scan .scanStall .sender q
    t.sender.state = .stop ∧ t.sender.hand = none ∧ t.scanner.state ≠ .scan := by
  have stays : switchToTimer k .scanStall q = q := by simp [switchToTimer, Cause.isDrumFault]
  have stops (x : Part) (sender : x.sender = q.sender) (scanner : x.scanner.state ≠ .scan) :
      let t := windDownSender .scanStall x
      t.sender.state = .stop ∧ t.sender.hand = none ∧ t.scanner.state ≠ .scan := by
    intro t
    have stop : t = toStop x := (windDownSender_stop (.inr (.inr (by rw [sender, state]))) (by decide)).trans (enterStop_eq x)
    rw [stop]
    refine ⟨rfl, released_empty x, ?_⟩
    rw [show (toStop x).scanner = (released x).scanner from rfl, released_scanner]
    exact scanner
  intro t
  have winds := offer_winds (slot := .scan) (c := .scanStall) (named := .sender) job free rfl stays
  rw [onJob_scan job] at winds
  let i : Job := k.setFirst .scanStall ⟨Cause.scanStall.side, q.stateFor .scanStall .sender, q.lineFor .scanStall .sender⟩
  have sends : i.senderSide.works = true := by simp [i, Job.setFirst, Side.works, works]
  simp only [t, winds]
  cases scans : k.scannerSide.works with
  | true =>
    rw [windDown_both (slot := .scan) (j := i) rfl scans sends]
    exact stops _ (by simp [Part.withScan]) (windDownScanner_unscanned _)
  | false =>
    rw [windDown_sender (slot := .scan) (j := i) rfl scans sends]
    exact stops _ rfl unscanned

section live
variable (job : p.disp.scanJob = some j) (live : j.spec.kind = .live) (alone : p.disp.relayJob = none)
  (onDrum : p.sender.onTimer = false) (uncalled : p.sender.callMark = false ∨ p.scanner.armed = false)
include job live alone onDrum uncalled

/-- A LIVE whose scanner does not come in time stops (R39, R126). -/
theorem drumLineEvent_stalls (state : p.scanner.state ≠ .scan) (due : p.imageLineDue j) (unended : ¬ p.liveEnded j)
    (stale : (released p).scanner.senderIndex = p.scanner.producer)
    (reached : p.settings.stallLimit ≤ min 63 (p.sender.stall + 1)) (mark : p.sender.callMark = true)
    (free : j.firstCause = none) (works : j.senderSide = ⟨true, false⟩) :
    let t := drumLineEvent whole locked p
    t.sender.state = .stop ∧ t.sender.hand = none ∧
      causedIn .scan j.spec .scanStall (some ⟨1, p.scanner.state.code, p.scanner.line⟩) t := by
  let k : Job := { j with tally := { j.tally.counted with linesRepeated := min 65535 (j.tally.linesRepeated + 1) } }
  let y := (p.onImage.repeats .scan j.tally.linesFresh).withScan k
  obtain ⟨image, stall, marked, settings, scanner⟩ := onImage_repeats (p := p) j.tally.linesFresh k
  have unscanned : y.scanner.state ≠ .scan := by
    rw [show y.scanner = _ from scanner]
    exact onImage_unscanned state
  obtain ⟨stop, empty, left⟩ := offer_scanStall (q := y) (k := k) rfl free works image unscanned
  have caused := offer_causes (slot := .scan) (c := .scanStall) (named := .sender) (p := y) (j := k) rfl free rfl rfl
  have judged : judgeStall j y = offer .scan .scanStall .sender y := by
    refine (if_pos (by rw [stall, settings]; exact reached)).trans ((if_neg (by simp [live])).trans (if_pos ?_))
    rw [marked, mark]
  have names : y.scanner.state = p.scanner.state ∧ y.scanner.line = p.scanner.line := by
    rw [show y.scanner = (released p).scanner from scanner, released_scanner]
    exact ⟨rfl, rfl⟩
  rw [show y.stateFor .scanStall .sender = y.scanner.state.code from rfl, names.1,
    show y.lineFor .scanStall .sender = y.scanner.line from rfl, names.2] at caused
  obtain ⟨i, job_i, spec, -, -⟩ := id caused
  have settles : scannerClaim (storeEntry locked (offer .scan .scanStall .sender y)) = offer .scan .scanStall .sender y := by
    rw [storeEntry_other (j := i) job_i (by rw [spec]; simp [k, live]), scannerClaim_other left]
  have event : drumLineEvent whole locked p = offer .scan .scanStall .sender y := by
    rw [drumLineEvent_repeats job live alone onDrum state uncalled due unended stale, judged, settles]
  intro t
  simp only [t, event]
  exact ⟨stop, empty, causedIn_of_at caused⟩

end live

/-! ## A line committed and a line taken -/

theorem testScanEnd_stays (more : q.scanner.line < j.spec.lines) (room : travelEnded q = false) : testScanEnd j q = q :=
  (if_neg (Nat.not_le.mpr more)).trans (if_neg (Bool.eq_false_iff.mp room))

/-- The end-of-travel test of a carriage that has room (R99). -/
theorem travelEnded_room (room : q.pins.travelEnd = false) (inside : q.scanner.position.getD 0 < q.settings.positionLimit) :
    travelEnded q = false :=
  Bool.eq_false_iff.mpr fun ended => by simp [travelEnded_iff, room, Nat.not_le.mpr inside] at ended

/-- The close of a whole line in SCAN, with more lines to come (R96, R99). -/
theorem scannerClose_commits {l : OpenLine} {x : Part} {k : Job} (job : x.disp.scanJob = some j)
    (counts : countStoreEvent j x = x.withScan k) (spec : k.spec = j.spec)
    (state : x.scanner.state = .scan) (opened : x.scanner.openLine = some l) (good : l.damaged = false)
    (written : l.written = 4 + x.settings.image) (more : x.scanner.line + 1 < j.spec.lines)
    (room : x.pins.travelEnd = false)
    (inside : (x.scanner.position.map (· + x.settings.stepsPerLine)).getD 0 < x.settings.positionLimit) :
    scannerClose true x =
      if j.spec.hostConsumes = true then ((x.withScan k).committed k l).raise .scanLine else (x.withScan k).committed k l := by
  have same : commitLine j l (x.withScan k) = commitLine k l (x.withScan k) := by simp only [commitLine, spec]
  have closes : closeLine true j (countStoreEvent j x) = if j.spec.hostConsumes = true then
      ((x.withScan k).committed k l).raise .scanLine else (x.withScan k).committed k l := by
    rw [counts, closeLine_whole (p := x.withScan k) opened good written, same, commitLine_eq (p := x.withScan k) rfl, spec]
  have stays (y : Part) (scanner : y.scanner = x.scanner.committed x.settings k.spec) (pins : y.pins = x.pins)
      (settings : y.settings = x.settings) : y.scanner.state = .scan ∧ testScanEnd j y = y := by
    have position : y.scanner.position = x.scanner.position.map (· + x.settings.stepsPerLine) := by
      rw [scanner]
      simp only [Scanner.committed, spec, if_pos more]
    have line : y.scanner.line = x.scanner.line + 1 := by rw [scanner]; rfl
    exact ⟨by rw [scanner]; exact state, testScanEnd_stays (by rw [line]; exact more)
      (travelEnded_room (by rw [pins]; exact room) (by rw [settings, position]; exact inside))⟩
  simp only [scannerClose, job, if_pos state, closes]
  split
  · obtain ⟨scans, same⟩ := stays (((x.withScan k).committed k l).raise .scanLine) rfl rfl rfl
    rw [if_pos scans, same]
  · obtain ⟨scans, same⟩ := stays ((x.withScan k).committed k l) rfl rfl rfl
    rw [if_pos scans, same]

/-- The part whose sender takes its oldest line at this event (R127). -/
def Part.takesOldest (x : Part) (fresh : Nat) : Part :=
  Part.sending { x with sender := x.eventCounted.sender.taking .scan x.scanner.senderIndex fresh }
    (x.settings.lineSlot .scan x.scanner.senderIndex)

theorem senderLine_takes {x : Part} {k : Job} (sends : x.sendsFor .scan k) (live : k.spec.kind = .live)
    (state : x.sender.state = .image) (uncalled : x.sender.callMark = false ∨ x.scanner.armed = false)
    (unended : ¬ (k.spec.lines ≤ k.tally.linesFresh ∨ w = true)) (fresh : x.scanner.senderIndex ≠ before) :
    senderLine before w x = (x.takesOldest k.tally.linesFresh).withScan
      { k with tally := { k.tally.counted with linesFresh := min 4095 (k.tally.linesFresh + 1) } } := by
  have eligible_line : eligible before k x.eventCounted = true :=
    (if_neg (by simp [live])).trans (decide_eq_true fresh)
  have goes_on : ¬ x.eventCounted.imageEnded before w k := by
    rintro (whole | last | done)
    · exact unended (.inl whole)
    · exact unended (.inr last)
    · simp [liveImageEnd, eligible_line] at done
  have ring : k.spec.ring = .scan := if_neg (by simp [live])
  have calls_none : countedLine before w k x = toneLine before w (x.sender.events + 1) k x.eventCounted := by
    refine countedLine_uncalled fun called => ?_
    rcases uncalled with unmarked | unarmed
    · simp [unmarked] at called
    · simp [unarmed] at called
  rw [senderLine_counts sends (by rw [state]; rfl), calls_none, toneLine_image (p := x.eventCounted) state,
    imageLine_takes goes_on (sendsFor_of_disp sends rfl) eligible_line, ring]
  rfl

/-- The tally of a LIVE at a line that it commits and a line that it takes (R96, R127). -/
def Job.committedAndTaken (j : Job) (noise : Nat) : Job :=
  { j with tally := { (j.tally.committed j.spec noise).counted with
    linesFresh := min 4095 ((j.tally.committed j.spec noise).linesFresh + 1) } }

section scan
variable {l : OpenLine} {x : Part} (job : x.disp.scanJob = some { j with tally := j.tally.committed j.spec l.noise })
  (live : j.spec.kind = .live)
include job live

/-- The sender's line and the claim that follow a commit (R101, R127). -/
theorem claims_after_commit (alone : x.disp.relayJob = none) (state : x.sender.state = .image)
    (uncalled : x.sender.callMark = false ∨ x.scanner.armed = false)
    (unended : ¬ (j.spec.lines ≤ j.tally.linesFresh ∨ w = true)) (fresh : x.scanner.senderIndex ≠ before)
    (scans : x.scanner.state = .scan)
    (free : (x.scanner.producer + 1) % x.settings.scanSize ≠ x.scanner.senderIndex)
    (held : j.spec.keep = true → (x.scanner.producer + 1) % x.settings.scanSize ≠ x.scanner.releaseCopy) :
    scannerClaim (storeEntry locked (senderLine before w x)) =
      ((x.takesOldest j.tally.linesFresh).withScan (j.committedAndTaken l.noise)).claimed := by
  have unscored : (j.tally.committed j.spec l.noise).linesFresh = j.tally.linesFresh := by simp [Tally.committed, live]
  have takes := senderLine_takes (before := before) (w := w) (sendsFor_live job live alone) live state uncalled
    (by rw [unscored]; exact unended) fresh
  rw [takes, unscored]
  have counted : ({ j with tally := { (j.tally.committed j.spec l.noise).counted with
      linesFresh := min 4095 (j.tally.linesFresh + 1) } } : Job) = j.committedAndTaken l.noise := by
    rw [← unscored]
    rfl
  rw [counted, storeEntry_other (p := (x.takesOldest j.tally.linesFresh).withScan _) rfl (by simp [live, Job.committedAndTaken])]
  exact scannerClaim_eq rfl scans (claimAllowed_iff.mpr
    ⟨fun _ => free, fun keeps => held (by rwa [← hostConsumes_live live])⟩)

end scan

/-- A LIVE in IMAGE whose scanner is in SCAN, at the end of a whole revolution. -/
theorem drumLineEvent_inScan (onDrum : p.sender.onTimer = false) (state : p.sender.state = .image)
    (kept : (scannerClose whole (released p)).sender.state = .image) : drumLineEvent whole locked p =
      scannerClaim (storeEntry locked (senderLine p.scanner.producer p.handLast (scannerClose whole (released p)))) := by
  simp only [drumLineEvent, onDrum, Bool.not_false, if_true, releaseAtLine_image state, kept, state, and_self]

/-- The scanner of a LIVE that commits a line with more to come, its slot claimed again (R96, R97). -/
def Scanner.goesOn (c : Scanner) (cfg : Settings) (oldest : Nat) (keep : Bool) : Scanner :=
  let next := (c.producer + 1) % cfg.scanSize
  { c with senderIndex := oldest, openLine := some (freshLine next), producer := next, line := c.line + 1, stall := 0,
           position := c.position.map (· + cfg.stepsPerLine), stepsOwed := c.stepsOwed + cfg.stepsPerLine, stepTicks := 0,
           releaseCopy := if keep = true then c.releaseCopy else next }

theorem committed_goesOn (p : Part) (live : j.spec.kind = .live) (more : p.scanner.line + 1 < j.spec.lines) :
    { (released p).scanner.committed p.settings j.spec with
      openLine := some (freshLine ((p.scanner.producer + 1) % p.settings.scanSize)) } =
        p.scanner.goesOn p.settings (released p).scanner.senderIndex j.spec.keep := by
  rw [released_scanner]
  simp only [Scanner.committed, Scanner.goesOn, if_pos more, live, true_and]
  cases j.spec.keep <;> rfl

/-- The part of a LIVE that commits one line and takes another at one event. -/
def Part.linesPass (p : Part) (keep : Bool) (fresh : Nat) : Part :=
  let r := Claims.released p
  let oldest := r.scanner.senderIndex
  { r with
    disp := p.disp,
    sender := { r.sender with state := .image, events := p.sender.events + 1 }.taking .scan oldest fresh,
    scanner := p.scanner.goesOn p.settings oldest keep,
    path := { r.path with guards := { r.path.guards with
      sending := some (p.scanRegion oldest),
      scanFill := some (p.scanRegion ((p.scanner.producer + 1) % p.settings.scanSize)) } } }

theorem raise_withScan (x : Part) (k : Job) (c : Attention) : (x.withScan k).raise c = (x.raise c).withScan k := rfl

theorem takesOldest_raise (x : Part) (c : Attention) (fresh : Nat) :
    (x.raise c).takesOldest fresh = (x.takesOldest fresh).raise c := rfl

theorem claimed_raise (x : Part) (c : Attention) : (x.raise c).claimed = x.claimed.raise c := rfl

theorem drumLineEvent_passes {l : OpenLine} (job : p.disp.scanJob = some j) (live : j.spec.kind = .live)
    (alone : p.disp.relayJob = none) (onDrum : p.sender.onTimer = false) (scans : p.scanner.state = .scan)
    (state : p.sender.state = .image) (uncalled : p.sender.callMark = false ∨ p.scanner.armed = false)
    (room : p.pins.travelEnd = false) (opened : p.scanner.openLine = some l) (good : l.damaged = false)
    (written : l.written = 4 + p.settings.image) (more : p.scanner.line + 1 < j.spec.lines)
    (inside : (p.scanner.position.map (· + p.settings.stepsPerLine)).getD 0 < p.settings.positionLimit)
    (unended : ¬ (j.spec.lines ≤ j.tally.linesFresh ∨ lastInHand p.sender))
    (fresh : (released p).scanner.senderIndex ≠ p.scanner.producer)
    (free : ((p.scanner.producer + 1) % p.settings.scanSize + 1) % p.settings.scanSize ≠ (released p).scanner.senderIndex)
    (held : j.spec.keep = true →
      ((p.scanner.producer + 1) % p.settings.scanSize + 1) % p.settings.scanSize ≠ p.scanner.releaseCopy) :
    drumLineEvent true locked p =
      if j.spec.keep = true then
        ((p.linesPass j.spec.keep j.tally.linesFresh).raise .scanLine).withScan (j.committedAndTaken l.noise)
      else (p.linesPass j.spec.keep j.tally.linesFresh).withScan (j.committedAndTaken l.noise) := by
  have sender := released_sender p
  have scanner := released_scanner p
  have disp := (released_frame p).1
  have loader : (released p).loader = p.loader := by rw [← releaseHand_eq]; simp
  have still : (released p).sender.state = .image := (congrArg Sender.state sender).trans state
  have pins : (released p).pins = p.pins := by rw [← releaseHand_eq]; simp
  have settings : (released p).settings = p.settings := settings_of_loader loader
  have job_r : (released p).disp.scanJob = some j := by rw [disp]; exact job
  have counts : countStoreEvent j (released p) = (released p).withScan j :=
    (countStoreEvent_live live).trans (withJob_self (slot := .scan) job_r).symm
  have closes := scannerClose_commits (x := released p) (k := j) job_r counts rfl (by rw [scanner]; exact scans)
    (by rw [scanner]; exact opened) good (by rw [settings]; exact written) (by rw [scanner]; exact more)
    (by rw [pins]; exact room) (by rw [settings, scanner]; exact inside)
  rw [show (released p).withScan j = released p from withJob_self (slot := .scan) job_r, hostConsumes_live live] at closes
  let r := (released p).committed j l
  have producer : (released p).scanner.producer = p.scanner.producer := by rw [scanner]
  have events : (released p).sender.events = p.sender.events := by rw [sender]
  have index : r.scanner.producer = (p.scanner.producer + 1) % p.settings.scanSize := by
    rw [← producer, ← settings]
    rfl
  have copy : j.spec.keep = true → r.scanner.releaseCopy = p.scanner.releaseCopy := fun keeps => by
    have stands : r.scanner.releaseCopy = (released p).scanner.releaseCopy := if_neg (by simp [keeps])
    rw [stands, scanner]
  have after (x : Part) (scanner_x : x.scanner = r.scanner) (sender_x : x.sender = (released p).sender)
      (disp_x : x.disp = r.disp) (settings_x : x.settings = p.settings) :
      scannerClaim (storeEntry locked (senderLine p.scanner.producer p.handLast x)) =
        ((x.takesOldest j.tally.linesFresh).withScan (j.committedAndTaken l.noise)).claimed := by
    refine claims_after_commit (by rw [disp_x]; rfl) live ?_ (by rw [sender_x, sender]; exact state) ?_
      (by rwa [wasLast_iff]) (by rw [scanner_x]; exact fresh) (by rw [scanner_x]; exact (congrArg Scanner.state scanner).trans scans)
      ?_ fun keeps => ?_
    · rw [disp_x]
      exact (congrArg Dispatcher.relayJob disp).trans alone
    · rw [sender_x, scanner_x, sender]
      exact uncalled.imp id fun unarmed => (congrArg Scanner.armed scanner).trans unarmed
    · rw [scanner_x, settings_x, index]
      exact free
    · rw [scanner_x, settings_x, index, copy keeps]
      exact held keeps
  have same : ((r.takesOldest j.tally.linesFresh).withScan (j.committedAndTaken l.noise)).claimed =
      (p.linesPass j.spec.keep j.tally.linesFresh).withScan (j.committedAndTaken l.noise) := by
    have kept := committed_goesOn p live more
    rw [← settings, ← producer] at kept
    rw [Part.linesPass, ← disp, ← still, ← settings, ← kept, ← producer, ← events, Part.scanRegion, Part.scanRegion, ← settings]
    rfl
  by_cases keeps : j.spec.keep = true
  · rw [if_pos keeps] at closes ⊢
    rw [drumLineEvent_inScan onDrum state (by rw [closes]; exact still), closes,
      after (r.raise .scanLine) rfl rfl rfl settings]
    rw [takesOldest_raise, ← raise_withScan, claimed_raise, same, raise_withScan]
  · rw [if_neg keeps] at closes ⊢
    rw [drumLineEvent_inScan onDrum state (by rw [closes]; exact still), closes,
      after r rfl rfl rfl settings]
    exact same

/-- What a LIVE sends when it has no fresh line, field by field (R127). -/
theorem onImage_repeats_eq (k : Job) (fresh : Nat) :
    let e := (released p).sender
    let back := ((released p).scanner.senderIndex + p.settings.scanSize - 1) % p.settings.scanSize
    let repeats : LineInHand → Sender := fun h =>
      { e with state := .image, events := p.sender.events + 1, fifo := [], held := 255, stall := min 63 (p.sender.stall + 1),
               hand := some h }
    (p.onImage.repeats .scan fresh).withScan k =
      Part.withScan (if fresh = 0 then { released p with disp := p.disp, sender := repeats (newHand .scan back .white 0) }
        else Part.sending { released p with disp := p.disp, sender := repeats (newHand .scan back .repeated 4) }
          (p.scanRegion back)) k := by
  intro e back repeats
  have settings := (onImage_frame p).1
  have stall : (released p).sender.stall = p.sender.stall := by rw [released_sender p]
  simp only [Part.repeats, settings, Settings.ringSize, repeats, ← stall]
  split <;> rfl

/-- Settles O50: a STORE at its entry, and a LIVE by the states of its sides. -/
theorem storeEntersScanAtALineEvent : Obligations.StoreEntersScanAtALineEvent := by
  refine ⟨?_, ?_⟩
  · intro p whole j job store alone unimaged state room inside free
    have unsent : p.senderSlot = none := by simp [Part.senderSlot, alone, job, store]
    exact drumLineEvent_enters job store (.inr ⟨unsent, unimaged⟩) state (travelEnded_room room inside) free
  · intro p whole locked j job live alone onDrum cfg c d n start image counted phased becomes slot next r e oldest fresh
      uncalled taking taken
    refine ⟨?_, ?_, ?_, ?_, ?_⟩
    · exact fun state standby unarmed => drumLineEvent_waits job live alone onDrum state standby unarmed
    · exact fun state standby armed early => drumLineEvent_starts job live alone onDrum state standby armed early
    · intro waiting armed mark sending called early room inside free held phasing
      have calls := drumLineEvent_calls (whole := whole) (locked := locked) job live alone onDrum waiting armed mark sending
        called early (travelEnded_room room inside) free held
      by_cases begins : phasing
      · simp only [becomes, if_pos begins]
        exact calls.trans (if_pos begins)
      · simp only [becomes, if_neg begins]
        exact calls.trans (if_neg begins)
    · intro state unmarked due ended back stall repeats repeated
      refine ⟨fun done => ?_, fun unended fresh_line => ?_, fun unended stale goes_on => ?_,
        fun unended stale reached mark free works => ?_⟩
      · have event := drumLineEvent_ends (whole := whole) (locked := locked) job live alone onDrum state unmarked due done
        rw [Part.stopping, (onImage_frame p).2.1] at event
        exact event
      · exact drumLineEvent_takes job live alone onDrum state unmarked due unended fresh_line
      · have event := drumLineEvent_again (whole := whole) (locked := locked) job live alone onDrum state unmarked due unended
          stale goes_on
        rw [onImage_repeats_eq] at event
        by_cases white : fresh = 0
        · rw [if_pos white] at event ⊢
          exact event
        · rw [if_neg white] at event ⊢
          exact event
      · exact drumLineEvent_stalls job live alone onDrum unmarked state due unended stale reached mark free works
    · rintro scans state unmarked rfl room l opened good written more moved inside unended stale free held q
      have passes := drumLineEvent_passes (locked := locked) job live alone onDrum scans state unmarked room opened good
        written more inside unended stale free held
      have counts : j.committedAndTaken l.noise = { j with tally := { taken with
          noiseHeld := min 65535 (j.tally.noiseHeld + l.noise), keepUsed := j.tally.keepUsed || j.spec.keep } } := by
        simp only [Job.committedAndTaken, Tally.committed, Tally.counted, live, reduceCtorEq, if_false, decide_true,
          Bool.true_and]
        rfl
      rw [counts] at passes
      by_cases keeps : j.spec.keep = true
      · simp only [becomes, if_pos keeps] at passes ⊢
        exact passes
      · simp only [becomes, if_neg keeps] at passes ⊢
        exact passes

end

end Sys2Proof.Machine
end

section
/-! An INDEX capture (R50, R51, R54 to R56, R61 to R64, R73): the period, the work of the drum state, and the line event. -/

namespace Sys2Proof.Machine

open Sys2Proof.Claims (answers ends endsIn leaves)

section
variable {p q x y : Part} {s : State} {j : Job} {whole locked servoFirst : Bool} {period : Nat} {found : Demands}
  {tick : Tick} {pins : Pins}

/-! ## The event -/

theorem awaitsDispatch_of_driven (opened : q.isOpen = p.isOpen) (work : q.disp.work = p.disp.work)
    (driven : p.servo.drum.driven = true → q.servo.drum.driven = true) (due : p.awaitsDispatch = true) :
    q.awaitsDispatch = true := by
  have pendingJob : q.disp.pendingJob = p.disp.pendingJob := congrArg (fun w => w.2.1) work
  simp only [Part.awaitsDispatch, Bool.and_eq_true, pendingJob, gatePasses_of_work opened work] at due ⊢
  exact ⟨driven due.1, due.2⟩

/-- The servo after the work of its drum: the demands, what is open of them and the speed-fault mark stand, and LOCKED
holds no lock timer (R65). -/
structure Servo.Turned (v w : Servo) : Prop where
  demands : w.demands = v.demands
  unsettled : w.unsettled = v.unsettled
  mark : w.speedFaultMark = v.speedFaultMark
  driven : v.drum.driven = true → w.drum.driven = true
  lock : w.drum = .locked → w.lockRunning = false

/-- The close of an event at which the drum turns and the demand in force stands. -/
theorem closeEvent_turned (settled : p.settled = true) (opened : q.isOpen = p.isOpen) (work : q.disp.work = p.disp.work)
    (turned : p.servo.Turned q.servo) : closeEvent p q = ends p q := by
  obtain ⟨running, -, marked, alone, left⟩ := Part.settled_iff.mp settled
  have fetch : q.disp.fetch = p.disp.fetch := congrArg Prod.fst work
  have pendingJob : q.disp.pendingJob = p.disp.pendingJob := congrArg (fun w => w.2.1) work
  refine closeEvent_ends (Part.settled_iff.mpr ⟨fun slot => ?_, turned.lock, fun mark => ?_, ?_, fun was open_ => ?_⟩)
    (by rw [turned.demands])
  · exact (jobOver_of_work work slot).trans (running slot)
  · rw [Part.drumHasJob, jobDemands_of_work work, turned.demands]
    exact marked (turned.mark ▸ mark)
  · rw [Dispatcher.fetchesAlone, fetch, pendingJob]
    exact alone
  · rw [turned.unsettled] at open_
    rw [turned.demands]
    obtain ⟨due, other⟩ := left was open_
    exact ⟨awaitsDispatch_of_driven opened work turned.driven due, other⟩

/-- The wrap count at a capture (R51). -/
def Part.wrapsAt (p : Part) (tick : Tick) : Nat :=
  if tick.toNat < p.clock.tick.toNat ∧ p.servo.reference.isSome = true then min 255 (p.servo.wraps + 1) else p.servo.wraps

/-- The part at an INDEX edge, before the capture acts (R51). -/
def Part.edge (p : Part) (tick : Tick) (pins : Pins) : Part :=
  { p with pins := pins, clock := { p.clock with tick := tick }, servo := { p.servo with wraps := p.wrapsAt tick } }

theorem advanceTick_eq (p : Part) (tick : Tick) (pins : Pins) : advanceTick tick (p.setPins pins) = p.edge tick pins := by
  by_cases passed : tick.toNat < p.clock.tick.toNat ∧ p.servo.reference.isSome = true
  · have wraps : p.wrapsAt tick = min 255 (p.servo.wraps + 1) := if_pos passed
    rw [Part.edge, wraps]
    exact congrArg (fun q : Part => q.onClock fun t => { t with tick := tick })
      (if_pos (c := tick.toNat < p.clock.tick.toNat ∧ p.servo.reference.isSome = true) passed)
  · have wraps : p.wrapsAt tick = p.servo.wraps := if_neg passed
    rw [Part.edge, wraps]
    exact congrArg (fun q : Part => q.onClock fun t => { t with tick := tick })
      (if_neg (c := tick.toNat < p.clock.tick.toNat ∧ p.servo.reference.isSome = true) passed)

/-- The part that has taken a capture, its schedule built and its conversions discarded (R50, R51, R71, R74). -/
def Part.captured (p : Part) (tick : Tick) (pins : Pins) (v : Servo) (schedule : Option Nat) : Part :=
  { p with pins := pins, clock := { p.clock with tick := tick }, servo := v, angle := ⟨schedule, 0, 0, 0⟩,
           scanner := { p.scanner with convSet := none } }

section
variable (settled : s.part.settled = true) (running : s.part.resetActive = false) (opened : y.isOpen = s.part.isOpen)
  (work : y.disp.work = s.part.disp.work) (turned : s.part.servo.Turned y.servo)
include settled running opened work turned

theorem leaves_of_edge (event : (if captures (s.part.edge tick pins) tick then
      capture tick servoFirst (s.part.edge tick pins) else s.part.edge tick pins) = y) :
    leaves (.indexCapture tick pins servoFirst) s y := by
  refine leaves_of_exec ?_ (closeEvent_turned settled opened work turned)
  have acts : (execIndexCapture tick pins servoFirst s) = .next (s.onPart fun p => if p.resetActive then p.setPins pins
      else closeEvent p (if captures (advanceTick tick (p.setPins pins)) tick then
        capture tick servoFirst (advanceTick tick (p.setPins pins)) else advanceTick tick (p.setPins pins))) := rfl
  rw [show exec (.indexCapture tick pins servoFirst) s = execIndexCapture tick pins servoFirst s from rfl, acts]
  simp only [State.onPart, running, Bool.false_eq_true, if_false, advanceTick_eq, event]

end

/-! ## The capture -/

/-- The servo at a capture, its period not yet measured (R50, R51). -/
def Servo.taken (v : Servo) (tick : Tick) : Servo := { v with reference := some tick, wraps := 0, quiet := 0 }

/-- The period that a capture measures (R51). -/
def Part.periodAt (p : Part) (tick r : Tick) : Nat := tick.toNat + 65536 * p.wrapsAt tick - r.toNat

/-- The part whose capture has measured its period (R51, R71). -/
def Part.measured (p : Part) (tick r : Tick) (pins : Pins) : Part :=
  p.captured tick pins { p.servo.taken tick with period := p.periodAt tick r } (some (p.periodAt tick r))

theorem capture_reference (unmeasured : p.servo.reference = none) : capture tick servoFirst (p.edge tick pins) =
    captureWork servoFirst (lineWhole (p.edge tick pins) 0) none (p.captured tick pins (p.servo.taken tick) none) := by
  have none_yet : capturePeriod (p.edge tick pins).servo tick = none := by
    simp only [capturePeriod, Part.edge, unmeasured]
  simp only [capture, none_yet]
  rfl

theorem capture_period {r : Tick} (reference : p.servo.reference = some r) : capture tick servoFirst (p.edge tick pins) =
    captureWork servoFirst (lineWhole (p.edge tick pins) (p.periodAt tick r)) (some (p.periodAt tick r))
      (p.measured tick r pins) := by
  have period : capturePeriod (p.edge tick pins).servo tick = some (p.periodAt tick r) := by
    simp only [capturePeriod, Part.edge, reference]
    rfl
  simp only [capture, period]
  rfl

theorem captures_iff : captures (p.edge tick pins) tick = true ↔ p.placed = true ∧ p.servo.drum ≠ .stopped ∧
    ¬ (p.servo.reference = some tick ∧ p.wrapsAt tick = 0) := by
  have event : captures (p.edge tick pins) tick = (p.placed && decide (p.servo.drum ≠ .stopped) &&
      !(decide (p.servo.reference = some tick) && decide (p.wrapsAt tick = 0))) := rfl
  rw [event, Bool.and_eq_true, Bool.and_eq_true, Bool.not_eq_true', ← Bool.not_eq_true, Bool.and_eq_true,
    decide_eq_true_iff, decide_eq_true_iff, decide_eq_true_iff, and_assoc]

/-! ## No job at the drum -/

/-- No job holds the scanner, none sends on the drum. -/
structure Part.Alone (p : Part) : Prop where
  scan : p.disp.scanJob = none
  sender : p.senderSlot = none
  state : p.sender.state ≠ .image

theorem drumLineEvent_alone (alone : p.Alone) : drumLineEvent whole locked p = p := by
  obtain ⟨scan, sender, state⟩ := alone
  have closes : scannerClose whole p = p := by simp only [scannerClose, scan]
  rw [drumLineEvent_unsent (.inr ⟨sender, state⟩) (by rw [closes]), closes]
  simp only [storeEntry, scannerClaim, scan]

theorem captureWork_reference (alone : x.Alone) : captureWork servoFirst whole none x = x := by
  cases servoFirst <;> exact drumLineEvent_alone alone

/-- With no job at the drum a capture is the servo's alone. -/
theorem captureWork_alone (alone : x.Alone) (work : servoPeriod x.servo.demands period x = y) (disp : y.disp = x.disp)
    (sender : y.sender = x.sender) : captureWork servoFirst whole (some period) x = y := by
  obtain ⟨scan, slot, state⟩ := alone
  have alone_y : y.Alone := by
    refine ⟨by rw [disp]; exact scan, ?_, by rw [sender]; exact state⟩
    rw [Part.senderSlot, disp]
    exact slot
  cases servoFirst
  · refine Eq.trans ?_ work
    exact congrArg (servoPeriod x.servo.demands period) (drumLineEvent_alone ⟨scan, slot, state⟩)
  · simp only [captureWork, work, if_true]
    exact drumLineEvent_alone alone_y

/-! ## The work of the drum states -/

/-- The part with another servo. -/
def Part.withServo (p : Part) (v : Servo) : Part := { p with servo := v }

/-- The servo after one run of the loop (R61). -/
def Servo.looped (v : Servo) (l : LoopStep) : Servo := { v with integral := l.integral, duty := l.duty, nextDuty := l.duty }

/-- One run of the loop at a period (R61). -/
def Part.loopStep (p : Part) (period : Nat) : LoopStep := piStep p.settings p.servo.target p.servo.integral period

theorem servoPeriod_spindown (drum : p.servo.drum = .spindown) : servoPeriod found period p = p := by
  simp only [servoPeriod, drum]

section spinup
variable (drum : p.servo.drum = .spinup)
include drum

theorem servoPeriod_spinup : servoPeriod found period p = spinupPeriod period p := by simp only [servoPeriod, drum]

theorem servoPeriod_far (far : spinupLimit p.servo.target < period) :
    servoPeriod found period p = p.withServo { p.servo with goodCount := 0 } :=
  (servoPeriod_spinup drum).trans (if_neg (Nat.not_le.mpr far))

theorem servoPeriod_good (near : period ≤ spinupLimit p.servo.target) (first : p.servo.goodCount = 0) :
    servoPeriod found period p = p.withServo { p.servo with goodCount := 1 } := by
  rw [servoPeriod_spinup drum]
  refine (if_pos near).trans ((if_neg (by omega)).trans ?_)
  rw [Part.withServo, Part.onServo, first]

theorem servoPeriod_locks (near : period ≤ spinupLimit p.servo.target) (again : 1 ≤ p.servo.goodCount) :
    servoPeriod found period p = p.withServo
      { p.servo with drum := .locking, goodCount := 2, integral := 0, duty := p.settings.baseDuty p.servo.target,
                     nextDuty := p.settings.baseDuty p.servo.target, lockCount := 0 } := by
  have locks : servoPeriod found period p = enterLocking (p.onServo fun v => { v with goodCount := 2 }) := by
    rw [servoPeriod_spinup drum]
    exact (if_pos near).trans (if_pos (by omega))
  have unlocked : (p.onServo fun v => { v with goodCount := 2 }).servo.drum ≠ .locked := by
    rw [show (p.onServo fun v => { v with goodCount := 2 }).servo.drum = _ from drum]
    decide
  rw [locks, enterLocking_eq, timedServo_of_unlocked unlocked, Part.disarmed, if_neg unlocked]
  rfl

end spinup

/-- The drum enters LOCKED with no scanner to arm (R60, R65). -/
theorem setDrum_locked (unlocked : p.servo.drum ≠ .locked) (unarmed : p.disp.scanJob = none) :
    setDrum .locked p = p.withServo { p.servo with drum := .locked, lockRunning := false } := by
  have arms (q : Part) (none_scans : q.disp.scanJob = none) : armIfWaiting q = q := by
    refine if_neg fun waits => ?_
    simp [Part.scanLive, none_scans] at waits
  refine (if_neg unlocked).trans ?_
  simp only [if_neg unlocked]
  exact arms _ unarmed

/-- The part that enters LOCKED (R55, R60). -/
def Part.lockGained (p : Part) (period : Nat) : Part :=
  p.withServo { p.servo.looped (p.loopStep period) with
    drum := .locked, lockCount := 3, outsideCount := 0, faultCount := 0, lockRunning := false }

section locking
variable (drum : p.servo.drum = .locking)
include drum

theorem servoPeriod_lockingPeriod : servoPeriod found period p = lockingPeriod found period p := by
  simp only [servoPeriod, drum]

theorem servoPeriod_unlocked (outside : p.settings.lockWindow < (p.loopStep period).error.natAbs) :
    servoPeriod found period p = p.withServo { p.servo.looped (p.loopStep period) with lockCount := 0 } := by
  rw [servoPeriod_lockingPeriod drum]
  exact if_neg (Nat.not_le.mpr outside)

theorem servoPeriod_locking (inside : (p.loopStep period).error.natAbs ≤ p.settings.lockWindow)
    (early : p.servo.lockCount < 2) : servoPeriod found period p =
      p.withServo { p.servo.looped (p.loopStep period) with lockCount := p.servo.lockCount + 1 } := by
  rw [servoPeriod_lockingPeriod drum]
  exact (if_pos inside).trans (if_neg (Nat.not_le.mpr (by exact Nat.succ_lt_succ early)))

/-- The drum enters LOCKED (R55, R60). -/
theorem servoPeriod_locked (unarmed : p.disp.scanJob = none)
    (inside : (p.loopStep period).error.natAbs ≤ p.settings.lockWindow) (third : 2 ≤ p.servo.lockCount) :
    servoPeriod found period p =
      if found.ofHold = true then (p.lockGained period).raise .drum else p.lockGained period := by
  let q := (runLoop (p.loopStep period) p).onServo fun v => { v with lockCount := 3, outsideCount := 0, faultCount := 0 }
  have unlocked : q.servo.drum ≠ .locked := by
    rw [show q.servo.drum = .locking from drum]
    decide
  have enters : setDrum .locked q = p.lockGained period := setDrum_locked unlocked unarmed
  rw [servoPeriod_lockingPeriod drum]
  refine (if_pos inside).trans ((if_pos (Nat.succ_le_succ third)).trans ?_)
  exact congrArg (fun r : Part => if found.ofHold = true then r.raise .drum else r) enters

end locking

/-! ## LOCKED -/

/-- The fault count after a period in LOCKED (R56, R64). -/
def Servo.faultsAfter (v : Servo) (limit err : Nat) : Nat :=
  if limit < err then (if 4 ≤ v.faultCount + 1 then 0 else v.faultCount + 1) else 0

theorem judgeFault_jobless {err : Nat} (none_scans : p.disp.scanJob = none) : judgeFault found err p =
    p.withServo { p.servo with faultCount := p.servo.faultsAfter p.settings.faultLimit err } := by
  have unoffered (q : Part) (disp : q.disp = p.disp) : ¬ (q.jobDemands found = true ∧ ¬ q.servo.speedFaultMark = true) := by
    simp [Part.jobDemands, disp, none_scans]
  unfold judgeFault Servo.faultsAfter
  split
  · split
    · exact if_neg (unoffered p rfl)
    · rfl
  · rfl

theorem judgeFault_small {err : Nat} (small : err ≤ p.settings.faultLimit) : judgeFault found err p =
    p.withServo { p.servo with faultCount := 0 } := if_neg (Nat.not_lt.mpr small)

theorem judgeWindow_stays {err : Nat} (keeps : err ≤ p.settings.lockWindow ∨ p.servo.outsideCount < 7) :
    judgeWindow err p = p.withServo { p.servo with
      outsideCount := if p.settings.lockWindow < err then p.servo.outsideCount + 1 else 0 } := by
  unfold judgeWindow
  split
  case isTrue outside => exact if_neg (by omega)
  · rfl

/-- The drum leaves LOCKED (R56, R65, R90). -/
theorem judgeWindow_lost {err : Nat} (outside : p.settings.lockWindow < err) (eighth : 7 ≤ p.servo.outsideCount) :
    judgeWindow err p = Part.turning (p.withServo { p.servo with outsideCount := 8, lockCount := 0 }) .locking := by
  refine (if_pos outside).trans ((if_pos (by omega)).trans ?_)
  exact setDrum_turning (.inr (.inl rfl)) _

/-- The loss of LOCKED, with the restart of the lock timer as the statements have it (R65, R90). -/
theorem turning_lost (drum : p.servo.drum = .locked) : p.turning .locking =
    let timed := (demandSpeed p.servo.demands.scanner).isSome = true ∧ p.scanner.enteredScan = false ∧
      p.servo.noLockOffered = false
    { p with servo := { p.servo with drum := .locking, lockTimer := if timed then 0 else p.servo.lockTimer,
                                     lockRunning := if timed then true else p.servo.lockRunning },
             scanner := { p.scanner with armed := false } } := by
  simp only [Part.turning, Part.timesLock_iff, drum, true_and, if_true]

section locked
variable (drum : p.servo.drum = .locked)
include drum

theorem servoPeriod_lockedPeriod : servoPeriod found period p = lockedPeriod found period p := by
  simp only [servoPeriod, drum]

variable (none_scans : p.disp.scanJob = none)
include none_scans

/-- The part that has judged the faults of a period in LOCKED, with no job at the drum (R64). -/
theorem servoPeriod_judged : servoPeriod found period p = judgeWindow (p.loopStep period).error.natAbs
    (p.withServo { p.servo.looped (p.loopStep period) with
      faultCount := p.servo.faultsAfter p.settings.faultLimit (p.loopStep period).error.natAbs }) := by
  have unrecorded : recordError found (p.loopStep period).error.natAbs (runLoop (p.loopStep period) p) =
      runLoop (p.loopStep period) p :=
    if_neg (by simp [Part.jobDemands, none_scans])
  have judged := judgeFault_jobless (p := runLoop (p.loopStep period) p) (found := found)
    (err := (p.loopStep period).error.natAbs) none_scans
  rw [servoPeriod_lockedPeriod drum]
  refine congrArg (judgeWindow _) ?_
  rw [show piStep p.settings p.servo.target p.servo.integral period = p.loopStep period from rfl, unrecorded, judged]
  rfl

/-- The drum leaves LOCKED at the eighth period outside the window (R56). -/
theorem servoPeriod_loses (outside : p.settings.lockWindow < (p.loopStep period).error.natAbs)
    (eighth : 7 ≤ p.servo.outsideCount) :
    let timed := (demandSpeed p.servo.demands.scanner).isSome = true ∧ p.scanner.enteredScan = false ∧
      p.servo.noLockOffered = false
    servoPeriod found period p =
      { p with
        servo := { p.servo.looped (p.loopStep period) with
          drum := .locking, outsideCount := 8, lockCount := 0,
          faultCount := p.servo.faultsAfter p.settings.faultLimit (p.loopStep period).error.natAbs,
          lockTimer := if timed then 0 else p.servo.lockTimer,
          lockRunning := if timed then true else p.servo.lockRunning },
        scanner := { p.scanner with armed := false } } := by
  intro timed
  let judged := p.withServo { p.servo.looped (p.loopStep period) with
    faultCount := p.servo.faultsAfter p.settings.faultLimit (p.loopStep period).error.natAbs }
  have loses := judgeWindow_lost (p := judged) outside eighth
  have turns := turning_lost (p := judged.withServo { judged.servo with outsideCount := 8, lockCount := 0 }) drum
  exact (servoPeriod_judged drum none_scans).trans (loses.trans turns)

end locked

/-! ## A capture with no job at the drum -/

section alone
variable (settled : s.part.settled = true) (running : s.part.resetActive = false) (placed : s.part.placed = true)
  (alone : s.part.Alone) (turns : s.part.servo.drum ≠ .stopped)
include settled running placed alone turns

theorem leaves_of_reference (unmeasured : s.part.servo.reference = none)
    (lock : s.part.servo.drum = .locked → s.part.servo.lockRunning = false) :
    leaves (.indexCapture tick pins servoFirst) s (s.part.captured tick pins (s.part.servo.taken tick) none) := by
  refine leaves_of_edge settled running rfl rfl ⟨rfl, rfl, rfl, id, lock⟩ ?_
  rw [if_pos (captures_iff.mpr ⟨placed, turns, fun same => by simp [unmeasured] at same⟩), capture_reference unmeasured]
  obtain ⟨scan, sender, state⟩ := alone
  exact captureWork_reference ⟨scan, sender, state⟩

theorem leaves_of_period {r : Tick} (reference : s.part.servo.reference = some r)
    (fresh : tick ≠ r ∨ s.part.wrapsAt tick ≠ 0)
    (work : servoPeriod s.part.servo.demands (s.part.periodAt tick r) (s.part.measured tick r pins) = y)
    (disp : y.disp = s.part.disp) (sender : y.sender = s.part.sender) (opened : y.isOpen = s.part.isOpen)
    (turned : s.part.servo.Turned y.servo) : leaves (.indexCapture tick pins servoFirst) s y := by
  refine leaves_of_edge settled running opened (congrArg Dispatcher.work disp) turned ?_
  have taken : ¬ (s.part.servo.reference = some tick ∧ s.part.wrapsAt tick = 0) := by
    rintro ⟨same, unwrapped⟩
    rw [reference, Option.some.injEq] at same
    rcases fresh with other | wrapped
    · exact other same.symm
    · exact wrapped unwrapped
  rw [if_pos (captures_iff.mpr ⟨placed, turns, taken⟩), capture_period reference]
  obtain ⟨scan, slot, state⟩ := alone
  exact captureWork_alone (x := s.part.measured tick r pins) ⟨scan, slot, state⟩ work disp sender

end alone

theorem ofHold_iff {d : Demands} : d.ofHold = true ↔
    demandSpeed d.scanner = none ∧ demandSpeed d.live = none ∧ d.inForce ≠ none := by
  rw [Demands.ofHold, Demands.ofJob, Bool.and_eq_true, Bool.not_eq_true', Bool.or_eq_false_iff, Option.isSome_eq_false_iff,
    Option.isSome_eq_false_iff, Option.isNone_iff_eq_none, Option.isNone_iff_eq_none, Option.isSome_iff_ne_none, and_assoc]

/-! ## A capture of a STORE in SCAN -/

/-- The counts of a job at a period in LOCKED (R63). -/
def Tally.erred (t : Tally) (ofJob : Bool) (limit err : Nat) : Tally :=
  { t with worstError := if ofJob then max t.worstError err else t.worstError,
           excursions := if ofJob = true ∧ limit < err then min 255 (t.excursions + 1) else t.excursions }

/-- The servo after a period in LOCKED within its limits (R56, R61). -/
def Part.steadied (p : Part) (period : Nat) : Servo :=
  { p.servo.looped (p.loopStep period) with faultCount := 0, outsideCount := 0 }

theorem recordError_eq {err : Nat} (job : p.disp.scanJob = some j) : recordError found err p =
    p.withScan { j with tally := j.tally.erred found.ofJob p.settings.excursion err } := by
  have records : p.jobDemands found = found.ofJob := by simp [Part.jobDemands, job]
  have tally (t : Tally) (err_small : ¬ p.settings.excursion < err) :
      (if found.ofJob = true ∧ p.settings.excursion < err then min 255 (t.excursions + 1) else t.excursions) = t.excursions :=
    if_neg fun h => err_small h.2
  rw [recordError, records]
  cases ofJob : found.ofJob with
  | true =>
    refine (if_pos rfl).trans ((onTally_scan job _).trans ?_)
    simp only [Tally.erred, true_and, if_true]
    rfl
  | false =>
    refine (if_neg Bool.false_ne_true).trans ?_
    simp only [Tally.erred, Bool.false_eq_true, false_and, if_false]
    exact (withJob_self (slot := .scan) job).symm

/-- A period in LOCKED within its limits, of a drum that a job holds (R56, R63). -/
theorem servoPeriod_steady (drum : p.servo.drum = .locked) (job : p.disp.scanJob = some j)
    (inside : (p.loopStep period).error.natAbs ≤ p.settings.lockWindow)
    (small : (p.loopStep period).error.natAbs ≤ p.settings.faultLimit) : servoPeriod found period p =
      (p.withServo (p.steadied period)).withScan { j with
        tally := j.tally.erred found.ofJob p.settings.excursion (p.loopStep period).error.natAbs } := by
  let err := (p.loopStep period).error.natAbs
  let q := (runLoop (p.loopStep period) p).withScan { j with tally := j.tally.erred found.ofJob p.settings.excursion err }
  have records : recordError found err (runLoop (p.loopStep period) p) = q :=
    recordError_eq (p := runLoop (p.loopStep period) p) job
  have judged : judgeFault found err q = q.withServo { q.servo with faultCount := 0 } := judgeFault_small small
  have stays : judgeWindow err (q.withServo { q.servo with faultCount := 0 }) =
      q.withServo { q.servo with faultCount := 0, outsideCount := 0 } := if_neg (Nat.not_lt.mpr inside)
  have works : servoPeriod found period p = judgeWindow err (judgeFault found err (recordError found err
      (runLoop (p.loopStep period) p))) := servoPeriod_lockedPeriod drum
  rw [works, records, judged, stays]
  rfl

/-- A line event that works alike under any servo and adds to the tally of the scanner's job. -/
def Part.LineStep (x z : Part) (j : Job) (whole : Bool) (count : Tally → Tally) : Prop :=
  ∀ (v : Servo) (t : Tally) (locked : Bool), drumLineEvent whole locked ((x.withServo v).withScan { j with tally := t }) =
    (z.withServo v).withScan { j with tally := count t }

/-- In SCAN on a LOCKED drum the two works of a capture, in either order, come to one part (R56, R63, R91). -/
theorem captureWork_steady {z : Part} {count : Tally → Tally} (drum : x.servo.drum = .locked)
    (job : x.disp.scanJob = some j) (inside : (x.loopStep period).error.natAbs ≤ x.settings.lockWindow)
    (small : (x.loopStep period).error.natAbs ≤ x.settings.faultLimit) (line : x.LineStep z j whole count)
    (settings : z.settings = x.settings)
    (apart : ∀ t : Tally, (count t).erred x.servo.demands.ofJob x.settings.excursion (x.loopStep period).error.natAbs =
      count (t.erred x.servo.demands.ofJob x.settings.excursion (x.loopStep period).error.natAbs)) :
    captureWork servoFirst whole (some period) x = (z.withServo (x.steadied period)).withScan { j with
      tally := count (j.tally.erred x.servo.demands.ofJob x.settings.excursion (x.loopStep period).error.natAbs) } := by
  cases servoFirst with
  | true =>
    have steady := servoPeriod_steady (found := x.servo.demands) drum job inside small
    simp only [captureWork, steady, if_true]
    exact line (x.steadied period) _ _
  | false =>
    have self : (x.withServo x.servo).withScan { j with tally := j.tally } = x := withJob_self (slot := .scan) job
    have event := line x.servo j.tally (decide (x.servo.drum = .locked))
    rw [self] at event
    let y := (z.withServo x.servo).withScan { j with tally := count j.tally }
    have looped : y.loopStep period = x.loopStep period := by
      rw [Part.loopStep, show y.settings = z.settings from rfl, settings]
      rfl
    have steady := servoPeriod_steady (p := y) (j := { j with tally := count j.tally }) (found := x.servo.demands)
      (period := period) drum rfl (by rw [looped, show y.settings = z.settings from rfl, settings]; exact inside)
      (by rw [looped, show y.settings = z.settings from rfl, settings]; exact small)
    have same : y.steadied period = x.steadied period := by
      rw [Part.steadied, looped]
      rfl
    have work : captureWork false whole (some period) x = servoPeriod x.servo.demands period y :=
      congrArg (servoPeriod x.servo.demands period) event
    rw [work, steady, same, looped, show y.settings = x.settings from settings, apart]
    rfl

/-- The slot that sends is the same under any servo and any tally of the scanner's job. -/
theorem senderSlot_withScan {k : Job} (job : x.disp.scanJob = some j) (disp : y.disp = { x.disp with scanJob := some k }) (spec : k.spec = j.spec) :
    y.senderSlot = x.senderSlot := by
  simp only [Part.senderSlot, disp, job, spec]

theorem raise_withServo (y : Part) (v : Servo) (c : Attention) : (y.withServo v).raise c = (y.raise c).withServo v := rfl

theorem claimed_withServo (y : Part) (v : Servo) : (y.withServo v).claimed = y.claimed.withServo v := rfl

theorem claimed_withScan (y : Part) (k : Job) : (y.withScan k).claimed = y.claimed.withScan k := rfl

/-- A commit under another servo and another tally. -/
theorem committed_step (x : Part) (j : Job) (l : OpenLine) (v : Servo) (t u : Tally) :
    (((x.withServo v).withScan { j with tally := t }).withScan { j with tally := u }).committed { j with tally := u } l =
      ((x.committed j l).withServo v).withScan { j with tally := u.committed j.spec l.noise } := rfl

/-- A damaged line under another servo and another tally. -/
theorem damaged_step (x : Part) (j : Job) (v : Servo) (t u : Tally) :
    ((((x.withServo v).withScan { j with tally := t }).withScan { j with tally := u }).damaged
      { j with tally := u }).stallCounted =
      (((x.damaged j).stallCounted).withServo v).withScan
        { j with tally := { u with damaged := min 255 (u.damaged + 1) } } := rfl

section scan
variable {l : OpenLine} (job : x.disp.scanJob = some j) (store : j.spec.kind = .store) (state : x.scanner.state = .scan)
  (unsent : x.sender.onTimer = true ∨ (x.senderSlot = none ∧ x.sender.state ≠ .image))
include job store state unsent

omit job state in
/-- The claim that follows the close of a STORE's line in SCAN (R91, R101). -/
theorem drumLineEvent_claims {k : Job} (closes : scannerClose whole x = y) (slot : y.senderSlot = x.senderSlot)
    (job_y : y.disp.scanJob = some k) (spec : k.spec = j.spec) (scans : y.scanner.state = .scan)
    (free : (y.scanner.producer + 1) % y.settings.scanSize ≠ y.scanner.releaseCopy) :
    drumLineEvent whole locked x = y.claimed := by
  have stays : storeEntry locked y = y := by
    simp only [storeEntry, job_y]
    exact if_neg fun enters => by simp [scans] at enters
  rw [drumLineEvent_unsent unsent (by rw [closes]; exact slot), closes, stays]
  refine scannerClaim_eq job_y scans (claimAllowed_iff.mpr ⟨fun live => ?_, fun _ => free⟩)
  rw [spec, store] at live
  cases live

omit store state in
theorem lineStep_unsent (v : Servo) (t : Tally) :
    let y := (x.withServo v).withScan { j with tally := t }
    y.sender.onTimer = true ∨ (y.senderSlot = none ∧ y.sender.state ≠ .image) := by
  intro y
  have slot : y.senderSlot = x.senderSlot := senderSlot_withScan (k := { j with tally := t }) job rfl rfl
  rw [slot]
  exact unsent

/-- The line event of a STORE in SCAN that commits a whole line (R96). -/
theorem lineStep_commits (opened : x.scanner.openLine = some l) (room : x.pins.travelEnd = false) (good : l.damaged = false)
    (written : l.written = 4 + x.settings.image) (more : x.scanner.line + 1 < j.spec.lines)
    (inside : (x.scanner.position.map (· + x.settings.stepsPerLine)).getD 0 < x.settings.positionLimit)
    (free : ((x.scanner.producer + 1) % x.settings.scanSize + 1) % x.settings.scanSize ≠ x.scanner.releaseCopy) :
    x.LineStep (((x.committed j l).raise .scanLine).claimed) j true fun t => t.counted.committed j.spec l.noise := by
  intro v t locked
  let y := (x.withServo v).withScan { j with tally := t }
  let k : Job := { j with tally := t.counted }
  have consumed : j.spec.hostConsumes = true := hostConsumes_store store
  have closes := scannerClose_commits (x := y) (j := { j with tally := t }) (k := k) rfl (countStoreEvent_store rfl store)
    rfl state opened good written more room inside
  rw [if_pos consumed] at closes
  have copy : ¬ (j.spec.kind = .live ∧ ¬ j.spec.keep = true) := by simp [store]
  rw [show (y.withScan k).committed k l = _ from committed_step x j l v t t.counted, raise_withScan, raise_withServo] at closes
  have slots : ((((x.committed j l).raise .scanLine).withServo v).withScan
      { j with tally := t.counted.committed j.spec l.noise }).senderSlot = y.senderSlot :=
    (senderSlot_withScan (x := x) (k := { j with tally := t.counted.committed j.spec l.noise }) job rfl rfl).trans
      (senderSlot_withScan (x := x) (y := y) (k := { j with tally := t }) job rfl rfl).symm
  have same : (x.committed j l).scanner.releaseCopy = x.scanner.releaseCopy := if_neg copy
  have claims := drumLineEvent_claims (locked := locked) (x := y) (j := k) store (lineStep_unsent job unsent v t) closes slots
    rfl rfl state (by rw [← same] at free; exact free)
  rw [claims, claimed_withScan, claimed_withServo]

/-- The line event of a STORE in SCAN whose revolution was cut short (R96, R98). -/
theorem lineStep_damages (opened : x.scanner.openLine = some l) (room : x.pins.travelEnd = false)
    (below : min 63 (x.scanner.stall + 1) < x.settings.stallLimit) (more : x.scanner.line < j.spec.lines)
    (inside : x.scanner.position.getD 0 < x.settings.positionLimit)
    (free : (x.scanner.producer + 1) % x.settings.scanSize ≠ x.scanner.releaseCopy) :
    x.LineStep (((x.damaged j).stallCounted).claimed) j false fun t =>
      { t.counted with damaged := min 255 (t.damaged + 1) } := by
  intro v t locked
  let y := (x.withServo v).withScan { j with tally := t }
  let k : Job := { j with tally := t.counted }
  let z := (((x.damaged j).stallCounted).withServo v).withScan
    { j with tally := { t.counted with damaged := min 255 (t.damaged + 1) } }
  have counts : countStoreEvent { j with tally := t } y = y.withScan k := countStoreEvent_store rfl store
  have closes : closeLine false { j with tally := t } (y.withScan k) = z :=
    (closeLine_hurt (p := y.withScan k) opened (.inl rfl)).trans
      ((damageLine_eq (p := y.withScan k) (j := k) rfl).trans
        ((countScanStall_below (p := (y.withScan k).damaged k) below).trans (damaged_step x j v t t.counted)))
  have goes_on : testScanEnd { j with tally := t } z = z := testScanEnd_stays more (travelEnded_room room inside)
  have closed : scannerClose false y = z := by
    have scans : y.scanner.state = .scan := state
    have scans_z : z.scanner.state = .scan := state
    simp only [scannerClose, show y.disp.scanJob = some { j with tally := t } from rfl, if_pos scans, counts, closes,
      if_pos scans_z, goes_on]
  have slots : z.senderSlot = y.senderSlot :=
    (senderSlot_withScan (x := x) (y := z) (k := { j with tally := { t.counted with damaged := min 255 (t.damaged + 1) } })
      job rfl rfl).trans (senderSlot_withScan (x := x) (y := y) (k := { j with tally := t }) job rfl rfl).symm
  have claims := drumLineEvent_claims (locked := locked) (x := y) (j := k) store (lineStep_unsent job unsent v t) closed slots
    rfl rfl state free
  rw [claims, claimed_withScan, claimed_withServo]

end scan

/-- A grant takes no byte from an empty FIFO (R95). -/
theorem ends_scanner_of_empty (before : Part) (empty : q.scanner.fifo = []) : (ends before q).scanner = q.scanner := by
  have marked : (markChanges before q).scanner = q.scanner := by simp
  rcases grantIdle_cases (markChanges before q) with same | ⟨r, -, -, granted⟩
  · rw [ends, same, marked]
  · rw [ends, granted, Part.grant_scanner, marked]
    split
    · rw [empty, List.tail_nil, ← empty]
    · rfl

theorem ends_guards (before q : Part) : (ends before q).path.guards = q.path.guards := by
  rw [ends, grantIdle_path]
  simp

theorem ends_disp (before q : Part) : (ends before q).disp = q.disp := by simp [ends]

theorem ends_pending (before q : Part) : (ends before q).status.pending = q.status.pending := by
  rw [ends, show (grantIdle (markChanges before q)).status = (markChanges before q).status by simp, markChanges_dirty]

theorem committed_store (store : j.spec.kind = .store) (t : Tally) (noise : Nat) : t.committed j.spec noise =
    { t with linesFresh := min 4095 (t.linesFresh + 1), noiseHeld := min 65535 (t.noiseHeld + noise) } := by
  simp [Tally.committed, store]

/-- Whether a revolution counts as whole, as the statement has it (R73). -/
theorem lineWhole_iff (built : p.angle.schedule.isSome = true) : lineWhole (p.edge tick pins) period = true ↔
    p.settings.strip + p.settings.image < p.angle.nextStart ∨
      p.angle.schedule.getD 0 * (p.settings.strip + p.settings.image) / p.derived.slots ≤ max p.angle.elapsed period := by
  obtain ⟨old, schedule⟩ := Option.isSome_iff_exists.mp built
  have event : lineWhole (p.edge tick pins) period =
      (decide (p.settings.strip + p.settings.image < p.angle.nextStart) ||
        decide (startOffset old p.derived.slots (p.settings.strip + p.settings.image) ≤ max p.angle.elapsed period)) := by
    simp only [lineWhole, show (p.edge tick pins).angle = p.angle from rfl, schedule]
    rfl
  rw [event, Bool.or_eq_true, decide_eq_true_iff, decide_eq_true_iff, schedule]
  rfl

section scan
variable {r : Tick} (settled : s.part.settled = true) (running : s.part.resetActive = false)
  (placed : s.part.placed = true) (job : s.part.disp.scanJob = some j) (drum : s.part.servo.drum = .locked)
  (reference : s.part.servo.reference = some r) (fresh : tick ≠ r ∨ s.part.wrapsAt tick ≠ 0)
include settled running placed job drum reference fresh

/-- What a capture on a LOCKED drum leaves of a STORE in SCAN. -/
theorem answers_of_lineStep {z : Part} {count : Tally → Tally} {t : Tally}
    (line : (s.part.measured tick r pins).LineStep z j (lineWhole (s.part.edge tick pins) (s.part.periodAt tick r)) count)
    (inside : ((s.part.measured tick r pins).loopStep (s.part.periodAt tick r)).error.natAbs ≤ s.part.settings.lockWindow)
    (small : ((s.part.measured tick r pins).loopStep (s.part.periodAt tick r)).error.natAbs ≤ s.part.settings.faultLimit)
    (settings : z.settings = s.part.settings)
    (apart : ∀ t ofJob limit err, (count t).erred ofJob limit err = count (t.erred ofJob limit err))
    (tally : count (j.tally.erred s.part.servo.demands.ofJob s.part.settings.excursion
      ((s.part.measured tick r pins).loopStep (s.part.periodAt tick r)).error.natAbs) = t)
    (disp : ∀ k, ({ z.disp with scanJob := some k } : Dispatcher) = { s.part.disp with scanJob := some k })
    (opened : z.isOpen = s.part.isOpen) (empty : z.scanner.fifo = []) :
    answers (.indexCapture tick pins servoFirst) s fun u => u.part.scanner = z.scanner ∧
      u.part.path.guards = z.path.guards ∧ u.part.status.pending = z.status.pending ∧
        u.part.disp.scanJob = some { j with tally := t } := by
  let x := s.part.measured tick r pins
  let y := (z.withServo (x.steadied (s.part.periodAt tick r))).withScan { j with tally := t }
  have lock := (Part.settled_iff.mp settled).2.1
  have turns : s.part.servo.drum ≠ .stopped := by rw [drum]; decide
  have taken : ¬ (s.part.servo.reference = some tick ∧ s.part.wrapsAt tick = 0) := by
    rintro ⟨same, unwrapped⟩
    rw [reference, Option.some.injEq] at same
    rcases fresh with other | wrapped
    · exact other same.symm
    · exact wrapped unwrapped
  have work : captureWork servoFirst (lineWhole (s.part.edge tick pins) (s.part.periodAt tick r))
      (some (s.part.periodAt tick r)) x = y := by
    rw [captureWork_steady (x := x) drum job inside small line settings fun t => apart t _ _ _]
    exact congrArg (fun t : Tally => (z.withServo (x.steadied (s.part.periodAt tick r))).withScan { j with tally := t }) tally
  have disp_y : y.disp = { s.part.disp with scanJob := some { j with tally := t } } := disp _
  obtain ⟨u, run, part, -⟩ := leaves_of_edge (y := y) (servoFirst := servoFirst) (tick := tick) (pins := pins) settled
    running opened (by simp [disp_y, Dispatcher.work, job, Job.sides])
    ⟨rfl, rfl, rfl, id, lock⟩
    ((if_pos (captures_iff.mpr ⟨placed, turns, taken⟩)).trans ((capture_period reference).trans work))
  refine ⟨u, run, ?_, ?_, ?_, ?_⟩
  · rw [part]
    exact ends_scanner_of_empty _ (q := y) empty
  · rw [part]
    exact ends_guards _ y
  · rw [part]
    exact ends_pending _ y
  · rw [part, ends_disp, disp_y]

end scan

/-- Settles O49: the capture of a drum with no job, by the state of the drum, and that of a STORE in SCAN. -/
theorem indexCaptureMeasuresThePeriod : Obligations.IndexCaptureMeasuresThePeriod := by
  refine ⟨?_, ?_⟩
  · intro s tick pins servoFirst settled running placed unscanned unsent unimaged p v wraps cfg cmd q taken
    have alone : s.part.Alone := ⟨unscanned, unsent, unimaged⟩
    have lock := (Part.settled_iff.mp settled).2.1
    refine ⟨fun stopped => ?_, fun turns unmeasured => ?_, ?_⟩
    · refine leaves_of_edge settled running rfl rfl ⟨rfl, rfl, rfl, id, lock⟩ (if_neg fun takes => ?_)
      exact (captures_iff.mp takes).2.1 stopped
    · exact leaves_of_reference settled running placed alone turns unmeasured lock
    · intro r reference fresh period limit held l err looped faults base timed
      let x := s.part.measured tick r pins
      have leaves_at {d : DrumState} (drum : v.drum = d) (moving : d ≠ .stopped) (y : Part)
          (work : servoPeriod s.part.servo.demands (s.part.periodAt tick r) x = y) (disp : y.disp = s.part.disp)
          (sender : y.sender = s.part.sender) (opened : y.isOpen = s.part.isOpen) (turned : v.Turned y.servo) :
          leaves cmd s y :=
        leaves_of_period settled running placed alone (fun stopped => moving (drum.symm.trans stopped)) reference fresh
          work disp sender opened turned
      have unlocked {w : Servo} {d : DrumState} (drum : w.drum = d) (other : d ≠ .locked) :
          w.drum = .locked → w.lockRunning = false := fun locked => absurd (drum.symm.trans locked) other
      refine ⟨fun drum => ?_, fun drum far => ?_, fun drum near first => ?_, fun drum near again => ?_, fun drum outside => ?_,
        fun drum inside early => ?_, fun drum inside third => ?_, fun drum stays => ?_, fun drum outside eighth => ?_⟩
      · exact leaves_at drum (by decide) _ (servoPeriod_spindown (p := x) drum) rfl rfl rfl ⟨rfl, rfl, rfl, id, lock⟩
      · exact leaves_at drum (by decide) _ (servoPeriod_far (p := x) drum far) rfl rfl rfl ⟨rfl, rfl, rfl, id, lock⟩
      · exact leaves_at drum (by decide) _ (servoPeriod_good (p := x) drum near first) rfl rfl rfl ⟨rfl, rfl, rfl, id, lock⟩
      · exact leaves_at drum (by decide) _ (servoPeriod_locks (p := x) drum near again) rfl rfl rfl
          ⟨rfl, rfl, rfl, fun _ => rfl, unlocked (d := .locking) rfl (by decide)⟩
      · exact leaves_at drum (by decide) _ (servoPeriod_unlocked (p := x) drum outside) rfl rfl rfl ⟨rfl, rfl, rfl, id, lock⟩
      · exact leaves_at drum (by decide) _ (servoPeriod_locking (p := x) drum inside early) rfl rfl rfl
          ⟨rfl, rfl, rfl, id, lock⟩
      · have gains := servoPeriod_locked (p := x) (found := v.demands) drum unscanned inside third
        by_cases held_only : v.demands.ofHold = true
        · rw [if_pos held_only] at gains
          simp only [if_pos (ofHold_iff.mp held_only)]
          exact leaves_at drum (by decide) _ gains rfl rfl rfl ⟨rfl, rfl, rfl, fun _ => rfl, fun _ => rfl⟩
        · rw [if_neg held_only] at gains
          simp only [if_neg (mt ofHold_iff.mpr held_only)]
          exact leaves_at drum (by decide) _ gains rfl rfl rfl ⟨rfl, rfl, rfl, fun _ => rfl, fun _ => rfl⟩
      · have judged := servoPeriod_judged (p := x) (period := period) (found := v.demands) drum unscanned
        exact leaves_at drum (by decide) _ (judged.trans (judgeWindow_stays stays)) rfl rfl rfl ⟨rfl, rfl, rfl, id, lock⟩
      · exact leaves_at drum (by decide) _ (servoPeriod_loses (p := x) (found := v.demands) drum unscanned outside eighth) rfl
          rfl rfl ⟨rfl, rfl, rfl, fun _ => rfl, unlocked (d := .locking) rfl (by decide)⟩
  · intro s tick pins servoFirst j l r settled running placed job store state opened empty drum reference unsent room p v wraps
      c cfg cmd period loop err gap reached judged slot next moved fresh inside small built
    have wrapped : s.part.wrapsAt tick = wraps := by simp only [Part.wrapsAt, reference, Option.isSome_some, and_true]; rfl
    have timed : s.part.periodAt tick r = period := by rw [Part.periodAt, wrapped]
    let x := s.part.measured tick r pins
    have error : (x.loopStep (s.part.periodAt tick r)).error.natAbs = err := by rw [timed]; rfl
    have answered (z : Part) (count : Tally → Tally) {w : Bool}
        (whole : lineWhole (s.part.edge tick pins) (s.part.periodAt tick r) = w) (line : x.LineStep z j w count) (t : Tally) :=
      answers_of_lineStep (z := z) (t := t) (tick := tick) (pins := pins) (servoFirst := servoFirst) settled running placed job
        drum reference (by rw [wrapped]; exact fresh) (by rw [whole]; exact line) (by rw [error]; exact inside)
        (by rw [error]; exact small)
    have judges : (j.tally.erred v.demands.ofJob cfg.excursion (x.loopStep (s.part.periodAt tick r)).error.natAbs).counted =
        judged := by
      rw [error]
      rfl
    have whole_iff : lineWhole (s.part.edge tick pins) (s.part.periodAt tick r) = true ↔ reached := by
      rw [lineWhole_iff built, timed]
    refine ⟨fun is_whole good written more inside_travel free => ?_, fun is_cut below more inside_travel free => ?_⟩
    · have line := lineStep_commits (x := x) job store state unsent opened room good written more inside_travel free
      obtain ⟨t, run, scanner, guards, pending, tally⟩ := answered _ _ (whole_iff.mpr is_whole) line
        (judged.committed j.spec l.noise) rfl (fun _ _ _ _ => rfl) (by rw [← judges]) (fun _ => rfl) rfl empty
      have committed : (x.scanner.committed x.settings j.spec) = { c with
          convSet := none, openLine := none, producer := next, line := c.line + 1, stall := 0, position := moved,
          stepsOwed := c.stepsOwed + cfg.stepsPerLine, stepTicks := 0 } := by
        have copy : ¬ (j.spec.kind = .live ∧ ¬ j.spec.keep = true) := by simp [store]
        simp only [Scanner.committed, if_pos (show x.scanner.line + 1 < j.spec.lines from more), if_neg copy]
        rfl
      refine ⟨t, run, scanner.trans ?_, (congrArg GuardSet.scanFill guards).trans rfl, ?_, ?_⟩
      · have claims : (((x.committed j l).raise .scanLine).claimed).scanner = { x.scanner.committed x.settings j.spec with
            openLine := some (freshLine next) } := rfl
        rw [claims, committed]
      · rw [pending]
        have raised : (x.status.pending ||| Attention.scanLine.bit) &&& Attention.scanLine.bit = Attention.scanLine.bit := by
          simpa using raised_bit x.status.pending 0 Attention.scanLine.bit
        exact fun unmarked => absurd (raised.symm.trans unmarked) (by decide)
      · rw [tally, committed_store store]
    · have line := lineStep_damages (x := x) job store state unsent opened room below more inside_travel free
      obtain ⟨t, run, scanner, guards, pending, tally⟩ := answered _ _ (Bool.eq_false_iff.mpr (mt whole_iff.mp is_cut)) line
        { judged with damaged := min 255 (j.tally.damaged + 1) } rfl (fun _ _ _ _ => rfl) (by rw [← judges]; rfl)
        (fun _ => rfl) rfl rfl
      refine ⟨t, run, scanner.trans ?_, (congrArg GuardSet.scanFill guards).trans rfl, tally⟩
      rw [show c.fifo = [] from empty]
      rfl

end

end Sys2Proof.Machine
end

section
/-! Slot centres and conversions (R92 to R95, R109, R110). -/

namespace Sys2Proof.Machine

open Sys2Proof.Claims (answers ends leaves withdrawn setEnds causedIn)

section
variable {p q x y : Part} {s : State} {j : Job} {l : OpenLine} {k : Nat} {xs : List Nat} {b : Byte} {bs : List Byte}

/-! ## Bytes at the scan FIFO -/

/-- The part with bytes added to the scan FIFO (R95). -/
def Part.pushed (p : Part) (bs : List Byte) : Part := { p with scanner := { p.scanner with fifo := p.scanner.fifo ++ bs } }

/-- The part with this line open. -/
def Part.withLine (p : Part) (l : OpenLine) : Part := { p with scanner := { p.scanner with openLine := some l } }

/-- The part whose FIFO was full: the line is damaged and its request withdrawn (R95, R109). -/
def Part.overflowed (p : Part) (l : OpenLine) : Part :=
  { p with path := withdrawn .scanner p.path,
           scanner := { p.scanner with openLine := some l.damage, fifo := [], convSet := none } }

theorem onLine_eq (opened : p.scanner.openLine = some l) (f : OpenLine → OpenLine) : p.onLine f = p.withLine (f l) := by
  simp only [Part.onLine, Part.onScanner, opened, Option.map_some]
  rfl

theorem pushByte_room (opened : p.scanner.openLine = some l) (good : l.damaged = false)
    (room : p.scanner.fifo.length < 64) : pushByte p b = p.pushed [b] := by
  simp only [pushByte, opened, good, Bool.false_eq_true, if_false]
  exact if_pos room

theorem pushByte_full (opened : p.scanner.openLine = some l) (good : l.damaged = false)
    (full : 64 ≤ p.scanner.fifo.length) : pushByte p b = p.overflowed l := by
  simp only [pushByte, opened, good, Bool.false_eq_true, if_false]
  refine (if_neg (Nat.not_lt.mpr full)).trans ?_
  rw [overflowLine, withdraw_eq, onLine_eq (p := { p with path := withdrawn .scanner p.path }) opened]
  rfl

theorem pushBytes_damaged (opened : p.scanner.openLine = some l) (bad : l.damaged = true) (bs : List Byte) :
    bs.foldl pushByte p = p := by
  induction bs with
  | nil => rfl
  | cons b bs ih =>
    have stays : pushByte p b = p := by simp only [pushByte, opened, bad, if_true]
    rw [List.foldl_cons, stays, ih]

theorem pushBytes_room (opened : p.scanner.openLine = some l) (good : l.damaged = false)
    (room : p.scanner.fifo.length + bs.length ≤ 64) : bs.foldl pushByte p = p.pushed bs := by
  induction bs generalizing p with
  | nil => simp only [List.foldl_nil, Part.pushed, List.append_nil]
  | cons b bs ih =>
    rw [List.length_cons] at room
    have next := ih (p := p.pushed [b]) opened (by simp only [Part.pushed, List.length_append, List.length_singleton]; omega)
    rw [List.foldl_cons, pushByte_room opened good (by omega), next]
    simp only [Part.pushed, List.append_assoc, List.singleton_append]

/-- Bytes that do not all fit damage the line, however many went in before (R95). -/
theorem pushBytes_full (opened : p.scanner.openLine = some l) (good : l.damaged = false) (some_byte : bs ≠ [])
    (full : 64 < p.scanner.fifo.length + bs.length) : bs.foldl pushByte p = p.overflowed l := by
  induction bs generalizing p with
  | nil => exact absurd rfl some_byte
  | cons b bs ih =>
    rw [List.length_cons] at full
    rw [List.foldl_cons]
    by_cases room : p.scanner.fifo.length < 64
    · have more : bs ≠ [] := by
        rintro rfl
        rw [List.length_nil] at full
        omega
      have next := ih (p := p.pushed [b]) opened more
        (by simp only [Part.pushed, List.length_append, List.length_singleton]; omega)
      rw [pushByte_room opened good room, next]
      rfl
    · rw [pushByte_full opened good (by omega)]
      exact pushBytes_damaged (l := l.damage) rfl rfl bs

/-! ## The end of a set -/

/-- The open line after an image slot (R94, R107). -/
def Part.pixelled (p : Part) (l : OpenLine) (xs : List Nat) : OpenLine :=
  { l with previous := some (imagePixel p.settings.noiseLimit p.scanner.white p.scanner.black l.previous xs),
           noise := if slotNoisy p.settings.noiseLimit xs = false then l.noise else l.noise + 1 }

/-- The bytes of an image slot: its pixel, and after the last one the header (R94, R95). -/
def Part.slotBytes (p : Part) (l : OpenLine) (k : Nat) (xs : List Nat) : List Byte :=
  BitVec.ofNat 8 (imagePixel p.settings.noiseLimit p.scanner.white p.scanner.black l.previous xs) ::
    if k + 1 = p.settings.strip + p.settings.image then
      headerBytes p.scanner.line (p.pixelled l xs).noise l.stripOk
    else []

theorem endImageSet_eq (opened : p.scanner.openLine = some l) : endImageSet l k xs p =
    (p.slotBytes l k xs).foldl pushByte (p.withLine (p.pixelled l xs)) := by
  have noise : (if slotNoisy p.settings.noiseLimit xs = true then l.noise + 1 else l.noise) =
      if slotNoisy p.settings.noiseLimit xs = false then l.noise else l.noise + 1 := by
    cases slotNoisy p.settings.noiseLimit xs <;> rfl
  have line : p.onLine (fun _ => p.pixelled l xs) = p.withLine (p.pixelled l xs) := onLine_eq opened _
  simp only [endImageSet, noise]
  split
  case isTrue last =>
    rw [Part.slotBytes, if_pos last, List.foldl_cons, ← line]
    rfl
  case isFalse more =>
    rw [Part.slotBytes, if_neg more, List.foldl_cons, ← line]
    rfl

theorem endImageSet_fits (opened : p.scanner.openLine = some l) (good : l.damaged = false)
    (room : p.scanner.fifo.length + (p.slotBytes l k xs).length ≤ 64) :
    endImageSet l k xs p = (p.withLine (p.pixelled l xs)).pushed (p.slotBytes l k xs) :=
  (endImageSet_eq opened).trans (pushBytes_room (p := p.withLine (p.pixelled l xs)) rfl good room)

theorem endImageSet_overflows (opened : p.scanner.openLine = some l) (good : l.damaged = false)
    (full : 64 < p.scanner.fifo.length + (p.slotBytes l k xs).length) :
    endImageSet l k xs p = (p.withLine (p.pixelled l xs)).overflowed (p.pixelled l xs) :=
  (endImageSet_eq opened).trans
    (pushBytes_full (p := p.withLine (p.pixelled l xs)) rfl good (List.cons_ne_nil _ _) full)

theorem slotBytes_length (p : Part) (l : OpenLine) (k : Nat) (xs : List Nat) : (p.slotBytes l k xs).length =
    if k + 1 = p.settings.strip + p.settings.image then 5 else 1 := by
  unfold Part.slotBytes
  split <;> rfl

/-- The open line after a strip slot (R109). -/
def Part.summed (p : Part) (l : OpenLine) (k : Nat) (xs : List Nat) : OpenLine :=
  let inWhite := slotNoisy p.settings.noiseLimit xs = false ∧ 2 ≤ k ∧ k + 3 ≤ p.settings.strip / 2
  let inBlack := slotNoisy p.settings.noiseLimit xs = false ∧ p.settings.strip / 2 + 2 ≤ k ∧ k + 3 ≤ p.settings.strip
  { l with
    whiteSum := if inWhite then l.whiteSum + slotMean xs else l.whiteSum,
    whiteCount := if inWhite then l.whiteCount + 1 else l.whiteCount,
    blackSum := if inBlack then l.blackSum + slotMean xs else l.blackSum,
    blackCount := if inBlack then l.blackCount + 1 else l.blackCount }

theorem addStrip_eq : (if slotNoisy p.settings.noiseLimit xs then l else l.addStrip p.settings.strip k (slotMean xs)) =
    p.summed l k xs := by
  unfold Part.summed OpenLine.addStrip whiteCandidate blackCandidate
  cases slotNoisy p.settings.noiseLimit xs with
  | true => simp only [if_true, Bool.true_eq_false, false_and, if_false]
  | false =>
    simp only [Bool.false_eq_true, if_false, true_and, Bool.and_eq_true, decide_eq_true_iff]
    by_cases white : 2 ≤ k ∧ k + 3 ≤ p.settings.strip / 2
    · have dark : ¬ (p.settings.strip / 2 + 2 ≤ k ∧ k + 3 ≤ p.settings.strip) := by omega
      simp only [if_pos white, if_neg dark]
    · simp only [if_neg white]
      split <;> rfl

theorem endStripSet_goes (opened : p.scanner.openLine = some l) (more : k + 1 ≠ p.settings.strip) :
    endStripSet l k xs p = p.withLine (p.summed l k xs) := by
  have line : p.onLine (fun _ => p.summed l k xs) = p.withLine (p.summed l k xs) := onLine_eq opened _
  simp only [endStripSet, addStrip_eq, line]
  exact if_neg more

/-- The last strip slot is no candidate of either patch (R109). -/
theorem endStripSet_last (opened : p.scanner.openLine = some l) (last : k + 1 = p.settings.strip) :
    endStripSet l k xs p = judgeStrip l p := by
  have same : p.summed l k xs = l := by
    have light : ¬ k + 3 ≤ p.settings.strip / 2 := by omega
    have dark : ¬ k + 3 ≤ p.settings.strip := by omega
    simp only [Part.summed, light, dark, and_false, if_false]
  have line : p.onLine (fun _ => l) = p := by
    rw [onLine_eq opened, Part.withLine, ← opened]
  simp only [endStripSet, addStrip_eq, same, line]
  exact if_pos last

/-! ## References -/

/-- The mean of a patch (R110). -/
def patchMean (sum count : Nat) : Nat := (sum + count / 2) / count

/-- The strip of a line gives new references (R110). -/
def OpenLine.Usable (l : OpenLine) (strip contrast : Nat) : Prop :=
  strip / 2 - 4 ≤ 2 * l.whiteCount ∧ strip / 2 - 4 ≤ 2 * l.blackCount ∧
    patchMean l.blackSum l.blackCount + contrast ≤ patchMean l.whiteSum l.whiteCount

theorem newReferences_usable {strip contrast : Nat} (usable : l.Usable strip contrast) : newReferences strip contrast l =
    some (patchMean l.whiteSum l.whiteCount, patchMean l.blackSum l.blackCount) := by
  obtain ⟨white, black, apart⟩ := usable
  have references {sum count : Nat} (enough : strip / 2 - 4 ≤ 2 * count) :
      patchReference strip sum count = some (patchMean sum count) := if_neg (Nat.not_lt.mpr enough)
  simp only [newReferences, references white, references black]
  exact if_pos apart

theorem newReferences_fault {strip contrast : Nat} (unusable : ¬ l.Usable strip contrast) :
    newReferences strip contrast l = none := by
  have too_few {sum count : Nat} (few : ¬ strip / 2 - 4 ≤ 2 * count) : patchReference strip sum count = none :=
    if_pos (Nat.not_le.mp few)
  have references {sum count : Nat} (enough : strip / 2 - 4 ≤ 2 * count) :
      patchReference strip sum count = some (patchMean sum count) := if_neg (Nat.not_lt.mpr enough)
  by_cases white : strip / 2 - 4 ≤ 2 * l.whiteCount
  · by_cases black : strip / 2 - 4 ≤ 2 * l.blackCount
    · simp only [newReferences, references white, references black]
      exact if_neg fun apart => unusable ⟨white, black, apart⟩
    · simp only [newReferences, references white, too_few black]
  · simp only [newReferences, too_few white]

/-- The part with new references in use, the open line's strip good (R93, R110). -/
def Part.referenced (p : Part) (j : Job) (l : OpenLine) (white black : Nat) : Part :=
  Part.withScan
    { p with scanner := { p.scanner with white := white, black := black, stripRun := 0,
                                         openLine := some { l with stripOk := true } } }
    { j with tally := { j.tally with white := white, black := black } }

section strip
variable (job : p.disp.scanJob = some j)
include job

theorem judgeStrip_usable (opened : p.scanner.openLine = some l)
    (usable : l.Usable p.settings.strip p.settings.minContrast) : judgeStrip l p =
      p.referenced j l (patchMean l.whiteSum l.whiteCount) (patchMean l.blackSum l.blackCount) := by
  let white := patchMean l.whiteSum l.whiteCount
  let black := patchMean l.blackSum l.blackCount
  let q : Part := { p with scanner := { p.scanner with white := white, black := black } }
  have sets : setReferences white black p =
      q.withScan { j with tally := { j.tally with white := white, black := black } } := onTally_scan (p := q) job _
  simp only [judgeStrip, newReferences_usable usable]
  rw [show setReferences _ _ p = _ from sets,
    onLine_eq (p := q.withScan { j with tally := { j.tally with white := white, black := black } }) opened]
  rfl

/-- The part with one more strip fault counted (R93). -/
def Part.faulted (p : Part) (j : Job) : Part :=
  Part.withScan { p with scanner := { p.scanner with stripRun := min 15 (p.scanner.stripRun + 1) } }
    { j with tally := { j.tally with stripFaults := min 255 (j.tally.stripFaults + 1) } }

theorem judgeStrip_fault (unusable : ¬ l.Usable p.settings.strip p.settings.minContrast) : judgeStrip l p =
    if p.settings.stripFaultLimit ≤ min 15 (p.scanner.stripRun + 1) then offer .scan .lampFault .scanner (p.faulted j)
    else p.faulted j := by
  have counts : (p.onScanner fun c => { c with stripRun := satAdd 15 c.stripRun 1 }).onTally .scan
      (fun t => { t with stripFaults := satAdd 255 t.stripFaults 1 }) = p.faulted j :=
    onTally_scan (p := { p with scanner := { p.scanner with stripRun := min 15 (p.scanner.stripRun + 1) } }) job _
  simp only [judgeStrip, newReferences_fault unusable, stripFault, counts]
  rfl

end strip

/-! ## The event -/

/-- The end of the set of slot `k` at its open line (R92). -/
def endLineSet (l : OpenLine) (k : Nat) (xs : List Nat) (p : Part) : Part :=
  if k < p.settings.strip then endStripSet l k xs p else endImageSet l k xs p

/-- The part at an event that ends a conversion set, with another scanner. -/
def Part.setless (p : Part) (phc : Sample) (clock : Timebase) (angle : AngleClock) (c : Scanner) : Part :=
  { p with phc := phc, clock := clock, angle := angle, scanner := { c with convSet := none } }

theorem endSet_undamaged {c : ConversionSet} (in_progress : p.scanner.convSet = some c)
    (opened : p.scanner.openLine = some l) (good : l.damaged = false) :
    endSet p = endLineSet l c.slot c.values { p with scanner := { p.scanner with convSet := none } } := by
  have line : (p.onScanner fun c => { c with convSet := none }).scanner.openLine = some l := opened
  simp only [endSet, in_progress, line, good, Bool.false_eq_true, if_false]
  rfl

theorem endSet_none (idle : p.scanner.convSet = none) : endSet p = p := by simp only [endSet, idle]

theorem endSet_unopened (shut : p.scanner.openLine.map OpenLine.damaged ≠ some false) :
    endSet p = { p with scanner := { p.scanner with convSet := none } } := by
  cases in_progress : p.scanner.convSet with
  | none => rw [endSet_none in_progress, ← in_progress]
  | some c =>
    cases opened : p.scanner.openLine with
    | none => simp only [endSet, in_progress, Part.onScanner, opened]
    | some l =>
      have bad : l.damaged = true := by simpa [opened] using shut
      simp only [endSet, in_progress, Part.onScanner, opened, bad, if_true]

/-- A change of the tally alone leaves the work in hand, and the strip's part in it (R92). -/
theorem tally_alone {t : Tally} (job : p.disp.scanJob = some j)
    (disp : y.disp = { p.disp with scanJob := some { j with tally := t } }) :
    y.disp.work = p.disp.work ∧ y.noStrip = p.noStrip := by
  simp only [Dispatcher.work, Part.noStrip, disp, job, Option.map_some, Job.sides, and_self]

/-- What an event goes on with after a set has ended: it leaves the jobs and the servo, and an undamaged line alone gets
a new set. -/
structure GoesOn (s : State) (goes next : Part → Part) : Prop where
  agrees : ∀ y, y.noStrip = s.part.noStrip → y.settings = s.part.settings → goes y = next y
  disp : ∀ y, (goes y).disp = y.disp
  servo : ∀ y, (goes y).servo = y.servo
  loader : ∀ y, (goes y).loader = y.loader
  damaged : ∀ y, y.scanner.openLine.map OpenLine.damaged ≠ some false → next y = y

section event
variable {cmd : Instr} {phc : Sample} {clock : Timebase} {angle : AngleClock} {goes next : Part → Part}
  (settled : s.part.settled = true) (on : GoesOn s goes next)
  (run : exec cmd s = .next (s.onPart fun p =>
    closeEvent p (goes (endLineSet l k xs (s.part.setless phc clock angle s.part.scanner)))))
include settled on run

/-- An event that changes no more of the jobs than tallies. -/
theorem leaves_of_set (ends_so : endLineSet l k xs (s.part.setless phc clock angle s.part.scanner) = y)
    (work : y.disp.work = s.part.disp.work) (strip : y.noStrip = s.part.noStrip) (loader : y.loader = s.part.loader)
    (servo : y.servo = s.part.servo) : leaves cmd s (next y) := by
  have agrees := on.agrees y strip (settings_of_loader loader)
  rw [ends_so, agrees] at run
  refine leaves_of_exec run (closeEvent_of_work settled ?_ ?_ ?_)
  · rw [← agrees, Part.isOpen, on.loader, loader]
    rfl
  · rw [← agrees, on.servo, servo]
  · rw [← agrees, on.disp, work]

omit settled in
/-- A strip fault at its limit offers LAMP_FAULT (R93). -/
theorem answers_of_lampFault (ends_so : endLineSet l k xs (s.part.setless phc clock angle s.part.scanner) =
      offer .scan .lampFault .scanner y) {i : Job} (job : y.disp.scanJob = some i) (free : i.firstCause = none) :
    answers cmd s fun t =>
      causedIn .scan i.spec .lampFault (some ⟨1, y.scanner.state.code, y.scanner.line⟩) t.part := by
  rw [ends_so] at run
  have caused := offer_causes (slot := .scan) (c := .lampFault) (named := .scanner) (p := y) job free rfl rfl
  have kept : (goes (offer .scan .lampFault .scanner y)).causedAt .scan i.spec .lampFault
      (some ⟨1, y.scanner.state.code, y.scanner.line⟩) := by
    obtain ⟨j, at_scan, facts⟩ := caused
    exact ⟨j, (Part.jobAt_congr (on.disp _) .scan).trans at_scan, facts⟩
  exact ⟨_, run, causedIn_closeEvent s.part kept⟩

/-- The end of a set, by its slot and what the FIFO and the strip hold (R93 to R95, R109, R110). -/
theorem setEnds_of (opened : s.part.scanner.openLine = some l) (good : l.damaged = false) :
    setEnds cmd s xs k l (s.part.setless phc clock angle) next := by
  let x := s.part.setless phc clock angle s.part.scanner
  unfold setEnds
  intro p cfg width clean n noise pixelled inWhite inBlack m summed white black usable run_count
  have opened_x : x.scanner.openLine = some l := opened
  have image (late : cfg.strip ≤ k) : endLineSet l k xs x = endImageSet l k xs x := if_neg (Nat.not_lt.mpr late)
  have strip (early : k < cfg.strip) : endLineSet l k xs x = endStripSet l k xs x := if_pos early
  have bytes : (x.slotBytes l k xs).length = if k + 1 = width then 5 else 1 := slotBytes_length x l k xs
  refine ⟨fun late more room => ?_, fun late last room => ?_, fun late full => ?_, fun early => ?_, fun j last job => ⟨fun good_strip => ?_,
    fun bad_strip below => ?_, fun bad_strip reached free => ?_⟩⟩
  · rw [if_neg more] at bytes
    have single : x.slotBytes l k xs = [BitVec.ofNat 8 n] := congrArg (List.cons _) (if_neg more)
    have fits := endImageSet_fits (xs := xs) (k := k) opened_x good (by rw [bytes]; exact room)
    rw [single] at fits
    exact leaves_of_set settled on run ((image late).trans fits) rfl rfl rfl rfl
  · rw [if_pos last] at bytes
    have fits := endImageSet_fits (xs := xs) (k := k) opened_x good (by rw [bytes]; exact room)
    have whole : x.slotBytes l k xs = [BitVec.ofNat 8 n, BitVec.ofNat 8 p.scanner.line,
        BitVec.ofNat 8 (p.scanner.line / 256), if l.stripOk then 0x01 else 0x00, BitVec.ofNat 8 (min 255 noise)] :=
      congrArg (List.cons _) (if_pos last)
    rw [whole] at fits
    exact leaves_of_set settled on run ((image late).trans fits) rfl rfl rfl rfl
  · have over_full : 64 < x.scanner.fifo.length + (x.slotBytes l k xs).length := by
      rw [bytes]
      rcases full with full | ⟨last, nearly⟩
      · have held : 64 ≤ x.scanner.fifo.length := full
        split <;> omega
      · have held : 60 ≤ x.scanner.fifo.length := nearly
        rw [if_pos last]
        omega
    have overflows := endImageSet_overflows (xs := xs) (k := k) opened_x good over_full
    have left := leaves_of_set settled on run ((image late).trans overflows) rfl rfl rfl rfl
    rw [on.damaged _ (by simp [Part.overflowed, OpenLine.damage])] at left
    exact left
  · have goes_on := endStripSet_goes (xs := xs) opened_x (Nat.ne_of_lt early)
    exact leaves_of_set settled on run ((strip (Nat.lt_of_succ_lt early)).trans goes_on) rfl rfl rfl rfl
  · have judged := (strip (by omega)).trans ((endStripSet_last (xs := xs) opened_x last).trans
      (judgeStrip_usable (p := x) job opened_x good_strip))
    obtain ⟨work, strip_kept⟩ := tally_alone (p := s.part) (y := x.referenced j l white black) job rfl
    exact leaves_of_set settled on run judged work strip_kept rfl rfl
  · have judged := (strip (by omega)).trans ((endStripSet_last (xs := xs) opened_x last).trans
      ((judgeStrip_fault (p := x) job bad_strip).trans (if_neg (Nat.not_le.mpr below))))
    obtain ⟨work, strip_kept⟩ := tally_alone (p := s.part) (y := x.faulted j) job rfl
    exact leaves_of_set settled on run judged work strip_kept rfl rfl
  · have judged := (strip (by omega)).trans ((endStripSet_last (xs := xs) opened_x last).trans
      ((judgeStrip_fault (p := x) job bad_strip).trans (if_pos reached)))
    exact answers_of_lampFault on run judged
      (i := { j with tally := { j.tally with stripFaults := min 255 (j.tally.stripFaults + 1) } }) rfl free

end event

/-! ## Slot centres and conversions -/

theorem startsSet_iff : startsSet k p = true ↔ p.scanner.openLine.map OpenLine.damaged = some false ∧
    k < p.settings.strip + p.settings.image ∧ ¬ (p.noStrip = true ∧ k < p.settings.strip) := by
  unfold startsSet
  cases p.scanner.openLine with
  | none => simp
  | some l =>
    simp only [Bool.and_eq_true, Bool.not_eq_true', decide_eq_true_iff, Option.map_some, Option.some.injEq, and_assoc,
      ← Bool.not_eq_true]

/-- A new set at a slot centre, where one is due (R92). -/
def startNew (k : Nat) (p : Part) : Part :=
  if startsSet k p then
    { p with scanner := { p.scanner with convSet := some ⟨k, []⟩ }, clock := { p.clock with beatInConversion := 0 } }
  else p

theorem scannerCentre_eq (k : Nat) (p : Part) : scannerCentre k p = startNew k (endSet p) := rfl

/-- The part at a slot centre (R72). -/
def Part.atCentre (p : Part) (period : Nat) : Part :=
  { p with angle := { p.angle with
    elapsed := max p.angle.elapsed (period * (2 * p.angle.nextCentre + 1) / (2 * p.derived.slots)),
    nextCentre := p.angle.nextCentre + 1 } }

theorem exec_slotCentre {period : Nat} (built : s.part.angle.schedule = some period)
    (held : s.part.angle.nextCentre < s.part.derived.slots) : exec .slotCentre s = .next (s.onPart fun p =>
      closeEvent p (startNew s.part.angle.nextCentre (endSet (s.part.atCentre period)))) := by
  have centre : s.part.centreHeld = some (centreOffset period s.part.derived.slots s.part.angle.nextCentre) := by
    simp only [Part.centreHeld, built, if_pos held]
  rw [show exec .slotCentre s = execSlotCentre s from rfl]
  simp only [execSlotCentre, State.onPart, centre]
  rfl

theorem startNew_frame (k : Nat) (p : Part) : (startNew k p).disp = p.disp ∧ (startNew k p).servo = p.servo ∧
    (startNew k p).loader = p.loader := by
  unfold startNew
  split <;> exact ⟨rfl, rfl, rfl⟩

/-- A new set at a slot centre, as the statement has it (R92). -/
theorem startNew_goesOn (s : State) (k : Nat) : GoesOn s (startNew k) fun q =>
    if q.scanner.openLine.map OpenLine.damaged = some false ∧ k < s.part.settings.strip + s.part.settings.image ∧
        ¬ (s.part.noStrip = true ∧ k < s.part.settings.strip) then
      { q with scanner := { q.scanner with convSet := some ⟨k, []⟩ }, clock := { q.clock with beatInConversion := 0 } }
    else q where
  agrees y strip settings := by
    have same := startsSet_iff (p := y) (k := k)
    rw [strip, settings] at same
    simp only [startNew, same]
  disp y := (startNew_frame k y).1
  servo y := (startNew_frame k y).2.1
  loader y := (startNew_frame k y).2.2
  damaged y shut := if_neg fun starts => shut starts.1

theorem goesOn_id (s : State) : GoesOn s id id where
  agrees _ _ _ := rfl
  disp _ := rfl
  servo _ := rfl
  loader _ := rfl
  damaged _ _ := rfl

/-- The part at a conversion (R92). -/
def Part.converted (p : Part) (value : Sample) (c : ConversionSet) : Part :=
  { p with phc := value, clock := { p.clock with beatInConversion := 0 }, scanner := { p.scanner with convSet := some c } }

theorem takeConversion_eq {c : ConversionSet} {value : Sample} (in_progress : p.scanner.convSet = some c) :
    takeConversion value { p with phc := value } =
      let q := p.converted value { c with values := c.values ++ [value.toNat] }
      if p.settings.conversions ≤ (c.values ++ [value.toNat]).length then endSet q else q := by
  simp only [takeConversion, in_progress]
  rfl

/-- Settles O54: the sets that end at a slot centre and at a last conversion. -/
theorem conversionsFormAPixel : Obligations.ConversionsFormAPixel := by
  intro s settled p cfg width
  refine ⟨?_, ?_, ?_⟩
  · intro period built held k a starts cut
    have run := exec_slotCentre built held
    have on := startNew_goesOn s k
    have starts_at (y : Part) (disp : y.disp = p.disp) (servo : y.servo = p.servo) (loader : y.loader = p.loader)
        (ends_so : endSet (p.atCentre period) = y) : leaves .slotCentre s (starts y) := by
      have strip : y.noStrip = p.noStrip := by simp only [Part.noStrip, disp]
      have agrees : startNew k y = starts y := on.agrees y strip (settings_of_loader loader)
      obtain ⟨disp_n, servo_n, loader_n⟩ := startNew_frame k y
      rw [ends_so, show startNew s.part.angle.nextCentre y = _ from agrees] at run
      rw [agrees] at disp_n servo_n loader_n
      refine leaves_of_exec run (closeEvent_of_work settled ?_ (servo_n.trans servo) (by rw [disp_n, disp]))
      rw [Part.isOpen, loader_n, loader]
      rfl
    refine ⟨fun idle => starts_at _ rfl rfl rfl (endSet_none (p := p.atCentre period) idle), fun shut => ?_,
      fun c l in_progress opened good => ?_⟩
    · have left := starts_at (cut p.scanner) rfl rfl rfl (endSet_unopened (p := p.atCentre period) shut)
      rw [show starts (cut p.scanner) = cut p.scanner from on.damaged _ shut] at left
      exact left
    · rw [endSet_undamaged (p := p.atCentre period) in_progress opened good] at run
      exact setEnds_of (phc := p.phc) (clock := p.clock) (angle := a) settled on run opened good
  · intro value idle
    have waits : takeConversion value { p with phc := value } = { p with phc := value } := by
      simp only [takeConversion, idle]
    refine leaves_of_exec ?_ (closeEvent_of_work (q := { p with phc := value }) settled rfl rfl rfl)
    rw [← waits]
    rfl
  · intro value c in_progress cmd xs clock
    have takes := takeConversion_eq (value := value) in_progress
    have run {y : Part} (result : takeConversion value { p with phc := value } = y) :
        exec (.conversionComplete value) s = .next (s.onPart fun p => closeEvent p y) := by
      rw [← result]
      rfl
    refine ⟨fun more => ?_, fun last l opened good => ?_⟩
    · exact leaves_of_exec (run (takes.trans (if_neg (Nat.not_le.mpr more))))
        (closeEvent_of_work (q := p.converted value { c with values := xs }) settled rfl rfl rfl)
    · have ended := endSet_undamaged (p := p.converted value { c with values := xs }) rfl opened good
      exact setEnds_of (phc := value) (clock := clock) (angle := p.angle) settled (goesOn_id s)
        (run ((takes.trans (if_pos last)).trans ended)) opened good

end

end Sys2Proof.Machine
end
